-- ==== Sys2Proof/Word.lean ====
section
/-!
DEFINITION. The bit-vector types of SWPLL-CORE (spec/00_scope.md R13, spec/20_memory.md R80, R81).
-/

namespace Sys2Proof

/-- A 32-bit register or bus word. -/
abbrev Word := BitVec 32

/-- A 16-bit timer sample, LUT entry or output level. -/
abbrev Half := BitVec 16

/-- The 64-bit scaling numerator and the PFD product. -/
abbrev Wide := BitVec 64

/-- A byte address of the host bus space. -/
abbrev Addr := BitVec 20

/-- One byte of the LUT RAM's storage. -/
abbrev Byte := BitVec 8

end Sys2Proof
end

