-- ==== Sys2Proof/Config.lean ====
section
/-!
DEFINITION. What one implementation fixes (spec/00_scope.md R8-R12, R14) and the free values of the model
(spec/93_implementation_defined.md U1, U2, U3).
-/

namespace Sys2Proof

/-- The build-time parameters of one block. "A model takes each as an argument" (00_scope.md, section 3): they are
carried in State.params and no operation writes them (log entry 1). -/
structure Params where
  /-- FRAC_BITS, R8: 0..30. -/
  fracBits : Nat
  /-- PRE_DIV_BITS, R9: 1..63. -/
  preDivBits : Nat
  /-- LOCK_COUNT, R10: 0..2^32-1. -/
  lockCount : Word
  /-- LUT_DEPTH, R11: 1..65536. -/
  lutDepth : Nat
  /-- SEED_REF_ON_FIRST, R12. -/
  seedRefOnFirst : Bool
  deriving DecidableEq, Repr

/-- The ranges R8, R9 and R11 give the parameters (R10's is the width of the field). -/
abbrev Params.Legal (p : Params) : Prop :=
  p.fracBits ≤ 30 ∧ 1 ≤ p.preDivBits ∧ p.preDivBits ≤ 63 ∧ 1 ≤ p.lutDepth ∧ p.lutDepth ≤ 65536

/-- The default values of R8-R12. PRESUMED: the spec marks the first three as general knowledge
(93_implementation_defined.md G1-G3, log entry 2). -/
def Params.default : Params :=
  { fracBits := 16, preDivBits := 37, lockCount := 10, lutDepth := 512, seedRefOnFirst := true }

/-- MIN_EDGE_INTERVAL, R14: OPEN, a named parameter that no rule uses (log entry 11). -/
opaque Config.minEdgeInterval : Nat

/-- FREE VALUE (U1, U2; log entry 3): what the byte of LUT RAM storage at an address holds when nothing has written it
since the hardware reset numbered by the first argument. -/
opaque Config.lutUnwritten : Nat → Nat → Byte

/-- FREE VALUE (U3; log entry 6): the choice among simultaneous stimuli, one for each count of open choices. -/
opaque Config.simultaneousOrder : Nat → Nat

end Sys2Proof
end

