-- ==== Sys2Proof/Syntax.lean ====
section
/-!
DEFINITION. The operations of SWPLL-CORE, one constructor for each row of spec/opcode_table.json, and the raw forms in
which stimuli reach the block's ports (spec/30_encoding.md R110, R111, R117, R118).
-/

namespace Sys2Proof

/-- The eight legal command words (30_encoding.md R113, R115). -/
inductive Command where
  | nop | init | sample | pfd | pi | lut | publish | sdmTick
  deriving DecidableEq, Repr

/-- One operation of the block (20_memory.md R94). The eight commands stand for a WRITE of their word to CMD. -/
inductive Instr where
  /-- NOP, 46_init_and_host.md R280. -/
  | nop
  /-- INIT, 46_init_and_host.md R270. -/
  | init
  /-- SAMPLE, 45_sequencer.md R256. -/
  | sample
  /-- PFD, 41_pfd.md R167. -/
  | pfd
  /-- PI, 42_pi.md R184. -/
  | pi
  /-- LUT, 43_lut_lock.md R206. -/
  | lut
  /-- PUBLISH, 44_sdm.md R230. -/
  | publish
  /-- SDM_TICK, 44_sdm.md R231. -/
  | sdmTick
  /-- READ, 46_init_and_host.md R285. -/
  | read (addr : Addr)
  /-- WRITE, 46_init_and_host.md R286. -/
  | write (addr : Addr) (data : Word)
  /-- EDGE with the feedback sample m and the reference sample r, 45_sequencer.md R258. -/
  | edge (m r : Half)
  /-- TICK, 44_sdm.md R232. -/
  | tick
  /-- RST, 70_reset_and_hazards.md R340. -/
  | rst
  deriving DecidableEq, Repr

/-- What one port presents. "Which port a stimulus arrives on decides its format" (30_encoding.md R110). -/
inductive Stimulus where
  /-- Format BUS, R117: the header and the data word (a READ's data word is not looked at). -/
  | bus (header data : Word)
  /-- Format EVT, R118: the event word and the payload. -/
  | event (word : BitVec 2) (payload : Word)
  /-- The RST input asserted: no encoding. -/
  | reset
  deriving DecidableEq, Repr

/-- Everything that arrives at one instant (20_memory.md R96): at most one bus transaction, the event port's word and
payload, and the RST input. -/
structure Arrival where
  event   : BitVec 2
  payload : Word
  bus     : Option (Word × Word)
  reset   : Bool
  deriving DecidableEq, Repr

/-- Why a raw form is no single operation. -/
inductive DecodeError where
  /-- A bus header with RSV non-zero describes no transaction (30_encoding.md R117). -/
  | reservedHeader
  /-- A command word that is none of the eight (R114). The block does not refuse it: a WRITE of it to CMD raises
  ILLEGAL_CMD. -/
  | illegalCommand
  /-- Event word 0b00 is no event (R118). -/
  | noEvent
  /-- Event word 0b11 is two operations in an unspecified order (R118). -/
  | simultaneousEvents
  deriving DecidableEq, Repr

/-- The operation a command is. -/
def Command.instr : Command → Instr
  | .nop => .nop
  | .init => .init
  | .sample => .sample
  | .pfd => .pfd
  | .pi => .pi
  | .lut => .lut
  | .publish => .publish
  | .sdmTick => .sdmTick

end Sys2Proof
end

