-- ==== Sys2Proof/WellFormed.lean ====
section
/-!
DEFINITION. Which operations are well formed. Every operand is held in a field of exactly the width its encoding gives
it (spec/30_encoding.md R117, R118), so the one check left is that an operation has one spelling: a WRITE of one of the
eight legal command words (R115) to CMD is spelled as the command (log entry 8). exec gives an ill-formed WRITE its
meaning all the same.
-/

namespace Sys2Proof

/-- Whether an operation is spelled in its one way. -/
def wellFormed : Instr → Bool
  | .nop | .init | .sample | .pfd | .pi | .lut | .publish | .sdmTick => true
  | .read _ => true
  | .write addr data => !(addr == 0x048#20 && decide (data.toNat < 8))
  | .edge _ _ => true
  | .tick => true
  | .rst => true

/-- The operation is spelled in its one way. -/
abbrev WellFormed (i : Instr) : Prop := wellFormed i = true

end Sys2Proof
end

