-- ==== Sys2Proof/Decode.lean ====
section
/-!
DEFINITION. The decoder, total on every raw form and refusing by name, and after it the encoder, both from
spec/30_encoding.md R111-R118.
-/

namespace Sys2Proof

/-- The address of CMD (20_memory.md R84). -/
def cmdAddr : Addr := 0x048#20

/-- The address of ARG0 (20_memory.md R84). -/
def arg0Addr : Addr := 0x040#20

/-- The address of ARG1 (20_memory.md R84). -/
def arg1Addr : Addr := 0x044#20

/-- The address of STATUS (20_memory.md R84). -/
def statusAddr : Addr := 0x054#20

/-- A command word: RSV [31:8] must be zero and OP [7:0] one of the eight codes (R111, R113, R114). -/
def decodeCommand (w : Word) : Except DecodeError Command :=
  if w.extractLsb' 8 24 ≠ 0#24 then .error .illegalCommand
  else
    match (w.extractLsb' 0 8).toNat with
    | 0x00 => .ok .nop
    | 0x01 => .ok .init
    | 0x02 => .ok .sample
    | 0x03 => .ok .pfd
    | 0x04 => .ok .pi
    | 0x05 => .ok .lut
    | 0x06 => .ok .publish
    | 0x07 => .ok .sdmTick
    | _ => .error .illegalCommand

/-- The header of a bus transaction from its fields W and ADDR, RSV zero (R117, R119). -/
def busHeader (w : Bool) (addr : Addr) : Word := (if w then 0x80000000#32 else 0#32) ||| addr.setWidth 32

/-- The payload of an EDGE: the feedback sample above the reference sample (R118). -/
def edgePayload (m r : Half) : Word := (m.setWidth 32 <<< 16) ||| r.setWidth 32

/-- A bus transaction (R117). A WRITE to CMD whose data word is a legal command IS that command (R112; log entry 8);
every other WRITE, to CMD too, stands for itself. -/
def decodeBus (header data : Word) : Except DecodeError Instr :=
  if header.extractLsb' 20 11 ≠ 0#11 then .error .reservedHeader
  else if header.getLsbD 31 then
    if header.extractLsb' 0 20 = cmdAddr then
      match decodeCommand data with
      | .ok c => .ok c.instr
      | .error _ => .ok (.write (header.extractLsb' 0 20) data)
    else .ok (.write (header.extractLsb' 0 20) data)
  else .ok (.read (header.extractLsb' 0 20))

/-- An event word and its payload (R118). -/
def decodeEvent (word : BitVec 2) (payload : Word) : Except DecodeError Instr :=
  if word = 0b01#2 then .ok (.edge (payload.extractLsb' 16 16) (payload.extractLsb' 0 16))
  else if word = 0b10#2 then .ok .tick
  else if word = 0b00#2 then .error .noEvent
  else .error .simultaneousEvents

/-- The operation a stimulus stands for. The port decides the format (R110). -/
def decode : Stimulus → Except DecodeError Instr
  | .bus header data => decodeBus header data
  | .event word payload => decodeEvent word payload
  | .reset => .ok .rst

/-- The command word of a command (R113). -/
def encodeCommand : Command → Word
  | .nop => 0x00#32
  | .init => 0x01#32
  | .sample => 0x02#32
  | .pfd => 0x03#32
  | .pi => 0x04#32
  | .lut => 0x05#32
  | .publish => 0x06#32
  | .sdmTick => 0x07#32

/-- A host WRITE of a command's word to CMD (R112, R120). -/
def encodeCommandWrite (c : Command) : Stimulus := .bus (busHeader true cmdAddr) (encodeCommand c)

/-- The raw form of an operation. -/
def encode : Instr → Stimulus
  | .nop => encodeCommandWrite .nop
  | .init => encodeCommandWrite .init
  | .sample => encodeCommandWrite .sample
  | .pfd => encodeCommandWrite .pfd
  | .pi => encodeCommandWrite .pi
  | .lut => encodeCommandWrite .lut
  | .publish => encodeCommandWrite .publish
  | .sdmTick => encodeCommandWrite .sdmTick
  | .read addr => .bus (busHeader false addr) 0#32
  | .write addr data => .bus (busHeader true addr) data
  | .edge m r => .event 0b01#2 (edgePayload m r)
  | .tick => .event 0b10#2 0#32
  | .rst => .reset

/-- The stimulus whose bits spec/opcode_table.json numbers as w. The table gives rows of 32 bits the formats CMD and
BUS and rows of fewer bits the format EVT, whose payload it gives no bits; a word does not name its port, so one of 32
bits that is a legal command is taken as that command written to CMD, any other as a bus header with its data word
above it, and a shorter one as an event word (log entry 9). -/
def tableStimulus (nbits w : Nat) : Stimulus :=
  if nbits < 32 then .event (BitVec.ofNat 2 w) 0#32
  else
    match decodeCommand (BitVec.ofNat 32 w) with
    | .ok _ => .bus (busHeader true cmdAddr) (BitVec.ofNat 32 w)
    | .error _ => .bus (BitVec.ofNat 32 w) (BitVec.ofNat 32 (w / 4294967296))

/-- What the decoder reads from a word of spec/opcode_table.json. -/
def decodeTableWord (nbits w : Nat) : Option Instr := (decode (tableStimulus nbits w)).toOption

/-- The pseudo-instructions of the textual syntax (30_encoding.md R120). The base statements WR, RD, EDGE, TICK and RST
of R119 are the operations write, read, edge, tick and rst. -/
inductive Pseudo where
  | nop
  | init
  | sample (m r : Word)
  | pfd (m r : Word)
  | pi (e : Word)
  | lut (c : Word)
  | publish (w : Word)
  | sdmTick
  | clrErr
  deriving DecidableEq, Repr

/-- The exact expansions of R120: several bus transactions, between which another agent's operation may fall. -/
def expandPseudo : Pseudo → List Instr
  | .nop => [.write cmdAddr 0x00#32]
  | .init => [.write cmdAddr 0x01#32]
  | .sample m r => [.write arg0Addr m, .write arg1Addr r, .write cmdAddr 0x02#32]
  | .pfd m r => [.write arg0Addr m, .write arg1Addr r, .write cmdAddr 0x03#32]
  | .pi e => [.write arg0Addr e, .write cmdAddr 0x04#32]
  | .lut c => [.write arg0Addr c, .write cmdAddr 0x05#32]
  | .publish w => [.write arg0Addr w, .write cmdAddr 0x06#32]
  | .sdmTick => [.write cmdAddr 0x07#32]
  | .clrErr => [.write statusAddr 0#32]

end Sys2Proof
end

