-- ==== Sys2Proof/Machine/Arith.lean ====
section
/-!
DEFINITION. The fixed-point helpers of spec/40_arith_helpers.md, R140-R150, over exact integers (spec/00_scope.md R16,
R17). Integer division here rounds toward minus infinity, since every divisor is positive.
-/

namespace Sys2Proof.Machine

/-- clamp(x, lo, hi), 00_scope.md R17. -/
def clamp (x lo hi : Int) : Int := min (max x lo) hi

/-- after(a, b), R140: a lies in the half of the ring that follows b. -/
def after (a b : Half) : Bool := decide ((b - a).toInt < 0)

/-- diff16(a, b), R141: the wraparound-aware signed difference a - b. -/
def diff16 (a b : Half) : Int := if after a b then (a - b).toInt else -(b - a).toInt

/-- add16(a, k), R143: ring addition of any integer. -/
def add16 (a : Half) (k : Int) : Half := BitVec.ofInt 16 (a.toNat + k)

/-- sat_acc(acc, e, L), R144. -/
def satAcc (acc e limit : Int) : Int := clamp (acc + e) (-limit) limit

/-- sat32(x), R145. -/
def sat32 (x : Int) : Int := clamp x (-2147483648) 2147483647

/-- narrow32(x), R146: the two's-complement wrap to 32 bits. -/
def narrow32 (x : Int) : Int := (BitVec.ofInt 32 x).toInt

/-- |x|, R147: the exact magnitude. -/
def magnitude (x : Int) : Nat := x.natAbs

/-- asr(x, n), R148: floor(x / 2^n). -/
def asr (x : Int) (n : Nat) : Int := x / ((2 ^ n : Nat) : Int)

/-- mul64u(x, y, z), R149: the product modulo 2^64. -/
def mul64u (x y z : Int) : Wide := BitVec.ofInt 64 (x * y * z)

/-- qround(v, Q), R150: the nearest multiple of 2^Q in steps, ties toward plus infinity. -/
def qround (v : Int) (q : Nat) : Int :=
  if q = 0 then v else (v + ((2 ^ (q - 1) : Nat) : Int)) / ((2 ^ q : Nat) : Int)

end Sys2Proof.Machine
end

