-- ==== Sys2Proof/Machine/State.lean ====
section
/-!
DEFINITION. Every piece of state the spec gives SWPLL-CORE (spec/10_state.md R30-R73), grouped as the spec groups it
(R31 and the document's data model), and the machine after hardware reset (R73, spec/70_reset_and_hazards.md R340).
The fields under "the model's own" are no state of the block; INVENTORY.md lists them.
-/

namespace Sys2Proof.Machine

/-- The staging registers, R33-R42: written by the host, read only by INIT and by the host. -/
structure Staging where
  ctrl : Word
  kp : Word
  ki : Word
  loopRate : Word
  pllRatio : Word
  refInc : Word
  lutN : Word
  nomIdx : Word
  ppmRange : Word
  sdmLimits : Word
  deriving DecidableEq, Repr

/-- The operand and result registers of host commands, R43 and R45. -/
structure HostRegs where
  arg0 : Word
  arg1 : Word
  result0 : Word
  result1 : Word
  deriving DecidableEq, Repr

/-- The active registers, R48: copies made by INIT. -/
structure Active where
  ctrl : Word
  kp : Word
  ki : Word
  loopRate : Word
  lutN : Word
  nomIdx : Word
  sdmLimits : Word
  deriving DecidableEq, Repr

/-- The derived registers, R49-R53: computed by INIT. -/
structure Derived where
  /-- MCLK_EXP_INC, E_m, R49. -/
  mclkExpInc : Word
  /-- REF_EXP_INC, E_r, R50. -/
  refExpInc : Word
  /-- SCALE_NUM, S_num, R51. -/
  scaleNum : Wide
  /-- MAX_DIFF, MD, R52. -/
  maxDiff : Word
  /-- WINDUP, W_lim, R53. -/
  windup : Word
  deriving DecidableEq, Repr

/-- The sequencing state, R54 and R55. -/
structure SeqState where
  loopCounter : Word
  firstLoop : Bool
  deriving DecidableEq, Repr

/-- The PFD's registers, R56-R58 and R63. -/
structure PfdState where
  mclkLast : Half
  refLast : Half
  lastDiff : Half
  resync : Bool
  deriving DecidableEq, Repr

/-- The PI controller's registers, R59 and R60. -/
structure PiState where
  accum : Word
  lastControl : Word
  deriving DecidableEq, Repr

/-- The LUT selector's registers, R47, R61 and R62. -/
structure LockState where
  countdown : Word
  status : BitVec 2
  currentValue : Half
  deriving DecidableEq, Repr

/-- The single-slot mailbox, R64. -/
structure Mailbox where
  slot : Word
  full : Bool
  deriving DecidableEq, Repr

/-- The modulator's registers, R65-R67. -/
structure SdmState where
  hold : Word
  e1 : Word
  e2 : Word
  out : Half
  deriving DecidableEq, Repr

/-- The block-status elements, R68. -/
structure BlockStatus where
  initialised : Bool
  fatal : Bool
  errCode : BitVec 8
  cfgCause : BitVec 4
  deriving DecidableEq, Repr

/-- An output event, R70 (a) and (c). -/
inductive Output where
  /-- One write of a word to the synthesizer's fractional register. -/
  | fracWrite (w : Word)
  /-- One pulse of RESYNC_EVT. -/
  | resyncEvt
  deriving DecidableEq, Repr

/-- The LUT RAM's storage as (address, byte) cells, addresses strictly rising (log entries 3 and 4). -/
abbrev Memory := List Host.Cell

/-- The block. -/
structure State where
  /-- The build-time parameters, written by no operation (log entry 1). -/
  params : Params
  staging : Staging
  host : HostRegs
  active : Active
  derived : Derived
  seq : SeqState
  pfd : PfdState
  pi : PiState
  lock : LockState
  mailbox : Mailbox
  sdm : SdmState
  status : BlockStatus
  /-- The LUT RAM, R69: what has been written to it since hardware reset. -/
  mem : Memory
  /-- The model's own: the number of hardware resets so far, which selects the free contents of the LUT RAM. -/
  lutEpoch : Nat
  /-- The model's own: the stimuli still to be performed, in order of arrival (log entry 5). -/
  inputs : List Arrival
  /-- The model's own: the number of open choices made among simultaneous stimuli (log entry 6). -/
  orderCount : Nat
  /-- The model's own: the output event list R70 asks for, oldest first (log entry 7). -/
  outputs : List Output
  /-- The model's own: the words READ transactions have returned, oldest first (log entry 7). -/
  readLog : List Word
  deriving DecidableEq, Repr

/-- Why the machine would stop with a fault. There is no constructor: "The block has no traps" (60_exceptions.md R300,
R312), every rejected operation is a next state, and no unspecified value stops a run (log entry 12). Safe: nothing
raises it. -/
inductive Fault
  deriving DecidableEq, Repr

/-- Why a step has no meaning. -/
inductive Refusal where
  /-- Raised by exec for an instruction not modelled yet, by its mnemonic; no arm raises it. Safe. -/
  | notModelled (mnemonic : String)
  /-- Raised by step for a raw form the decoder refuses: a bus header with RSV non-zero, of which "no hardware
  transaction has that form" (30_encoding.md R117, 93_implementation_defined.md U14). Safe: the model stops where no
  stimulus of the hardware is. -/
  | notAnOperation (reason : DecodeError)
  deriving DecidableEq, Repr

/-- The lock code UnlockedLow, R47. -/
def unlockedLow : BitVec 2 := 0b11#2

/-- The lock code Locked, R47. -/
def locked : BitVec 2 := 0b00#2

/-- The lock code UnlockedHigh, R47. -/
def unlockedHigh : BitVec 2 := 0b01#2

/-- The column "reset" of the reset table, R73, for a block with the given parameters. Its LUT RAM is the one numbered
by the epoch, and the model's own records are empty. -/
def State.powerOn (p : Params) (epoch : Nat) : State where
  params := p
  staging :=
    { ctrl := 0, kp := 0, ki := 0, loopRate := 0, pllRatio := 0, refInc := 0, lutN := 0, nomIdx := 0, ppmRange := 0,
      sdmLimits := 0 }
  host := { arg0 := 0, arg1 := 0, result0 := 0, result1 := 0 }
  active := { ctrl := 0, kp := 0, ki := 0, loopRate := 0, lutN := 0, nomIdx := 0, sdmLimits := 0 }
  derived := { mclkExpInc := 0, refExpInc := 0, scaleNum := 0, maxDiff := 0, windup := 0 }
  seq := { loopCounter := 0, firstLoop := true }
  pfd := { mclkLast := 0, refLast := 0, lastDiff := 0, resync := false }
  pi := { accum := 0, lastControl := 0 }
  lock := { countdown := p.lockCount, status := unlockedLow, currentValue := 0 }
  mailbox := { slot := 0, full := false }
  sdm := { hold := 0, e1 := 0, e2 := 0, out := 0 }
  status := { initialised := false, fatal := false, errCode := 0, cfgCause := 0 }
  mem := []
  lutEpoch := epoch
  inputs := []
  orderCount := 0
  outputs := []
  readLog := []

/-- The machine right after hardware reset (R73, R340), with the default parameters. -/
def State.reset : State := State.powerOn Params.default 0

end Sys2Proof.Machine
end

