-- ==== Sys2Proof/Machine/Operands.lean ====
section
/-!
DEFINITION. Where an operation's operands come from: ARG0 and ARG1 (spec/30_encoding.md R116), and the fields of the
active and derived registers the datapath reads (spec/10_state.md R33, R42, R48-R53).
-/

namespace Sys2Proof.Machine

/-- mclk = ARG0[15:0] (SAMPLE, PFD). -/
def State.argMclk (s : State) : Half := s.host.arg0.extractLsb' 0 16

/-- ref = ARG1[15:0] (SAMPLE, PFD). -/
def State.argRef (s : State) : Half := s.host.arg1.extractLsb' 0 16

/-- error = sext_16(ARG0[15:0]) (PI). -/
def State.argError (s : State) : Int := (s.host.arg0.extractLsb' 0 16).toInt

/-- control = sext_32(ARG0) (LUT). -/
def State.argControl (s : State) : Int := s.host.arg0.toInt

/-- word = ARG0 (PUBLISH). -/
def State.argWord (s : State) : Word := s.host.arg0

/-- MODE, A_CTRL[0]: true is SDM mode. -/
def State.mode (s : State) : Bool := s.active.ctrl.getLsbD 0

/-- SDM_ORDER, A_CTRL[1]: true is the second-order modulator. -/
def State.sdmOrder (s : State) : Bool := s.active.ctrl.getLsbD 1

/-- SDM_QBITS, A_CTRL[12:8]. -/
def State.sdmQbits (s : State) : Nat := (s.active.ctrl.extractLsb' 8 5).toNat

/-- LO = sext_16(OUT_MIN) of A_SDM_LIMITS. -/
def State.outMin (s : State) : Int := (s.active.sdmLimits.extractLsb' 0 16).toInt

/-- HI = sext_16(OUT_MAX) of A_SDM_LIMITS. -/
def State.outMax (s : State) : Int := (s.active.sdmLimits.extractLsb' 16 16).toInt

/-- E_m, zext_32(MCLK_EXP_INC). -/
def State.em (s : State) : Nat := s.derived.mclkExpInc.toNat

/-- E_r, zext_32(REF_EXP_INC); zero disables compensation (R50). -/
def State.er (s : State) : Nat := s.derived.refExpInc.toNat

/-- S_num, zext_64(SCALE_NUM). -/
def State.snum (s : State) : Nat := s.derived.scaleNum.toNat

/-- MD, zext_32(MAX_DIFF). -/
def State.md (s : State) : Nat := s.derived.maxDiff.toNat

/-- W_lim, the value of WINDUP, in [0, 2^31 - 1] (R53). -/
def State.wlim (s : State) : Nat := s.derived.windup.toNat

/-- The samples an EDGE and a SAMPLE act on are looked at only while the block is running: FATAL = 0 and
INITIALISED = 1 (60_exceptions.md R321). -/
def State.running (s : State) : Bool := !s.status.fatal && s.status.initialised

end Sys2Proof.Machine
end

