-- ==== Sys2Proof/Machine/Flags.lean ====
section
/-!
DEFINITION. The flags: the resync flag (spec/41_pfd.md R166), the STATUS register image (spec/10_state.md R46) and the
LOCK_STATUS output (R70 (b)).
-/

namespace Sys2Proof.Machine

/-- rs, R166: the exact magnitude of the phase error exceeds MD, strictly. -/
def State.desync (s : State) (pe : Int) : Bool := decide (s.md < magnitude pe)

/-- The STATUS image (R46, 46_init_and_host.md R285). -/
def State.statusWord (s : State) : Word :=
  0#12 ++ s.status.cfgCause ++ s.status.errCode ++ 0#1 ++ BitVec.ofBool s.mailbox.full ++
    BitVec.ofBool s.status.fatal ++ BitVec.ofBool s.status.initialised ++ BitVec.ofBool s.pfd.resync ++
    BitVec.ofBool s.seq.firstLoop ++ s.lock.status

/-- zext_2(LOCK_STATUS) as SAMPLE and LUT return it: 0 Locked, 1 UnlockedHigh, 3 UnlockedLow. -/
def State.lockCode (s : State) : Word := s.lock.status.setWidth 32

/-- The level output LOCK_STATUS[1:0], R70 (b). -/
def State.lockOutput (s : State) : BitVec 2 := s.lock.status

end Sys2Proof.Machine
end

