-- ==== Sys2Proof/Machine/Ops.lean ====
section
/-!
DEFINITION. The named operations over the LUT RAM, the outputs, the mailbox and the error state, among them the
block's whole counterpart of taking an exception: raise Error and raise Fatal (spec/00_scope.md R19,
spec/60_exceptions.md R300-R313), and hardware reset, the only return from the fatal state.
-/

namespace Sys2Proof.Machine

/-- The byte listed at an address, if any. -/
def Memory.find : Memory → Nat → Option Byte
  | [], _ => none
  | (a, b) :: rest, at_ => if a = at_ then some b else Memory.find rest at_

/-- Stores a byte, keeping the addresses strictly rising. -/
def Memory.store : Memory → Nat → Byte → Memory
  | [], at_, v => [(at_, v)]
  | (a, b) :: rest, at_, v =>
    if at_ < a then (at_, v) :: (a, b) :: rest
    else if at_ = a then (at_, v) :: rest
    else (a, b) :: Memory.store rest at_ v

/-- Whether every address of the list is above a bound. -/
def Memory.above (bound : Nat) (m : Memory) : Bool := m.all fun c => decide (bound < c.1)

/-- The canonical form: addresses strictly rising. An unlisted address holds no written value, so no entry can equal
what it reads as (log entry 3). -/
def Memory.wf : Memory → Bool
  | [] => true
  | (a, _) :: rest => Memory.above a rest && Memory.wf rest

/-- The model's read of one byte of LUT RAM storage: what was last written there, and a free value where nothing has
been written since hardware reset (93_implementation_defined.md U1, U2; log entry 3). -/
def State.readByte (s : State) (a : Nat) : Byte := (Memory.find s.mem a).getD (Config.lutUnwritten s.lutEpoch a)

/-- The bus address of LUT[i] (20_memory.md R86). -/
def lutAddr (i : Nat) : Nat := 0x40000 + 4 * i

/-- LUT[i]: bits [15:8] at the higher byte address, bits [7:0] at the lower (log entry 4). -/
def State.lutRead (s : State) (i : Nat) : Half := s.readByte (lutAddr i + 1) ++ s.readByte (lutAddr i)

/-- LUT[i] <- v. -/
def State.lutWrite (s : State) (i : Nat) (v : Half) : State :=
  { s with
    mem := Memory.store (Memory.store s.mem (lutAddr i) (v.extractLsb' 0 8)) (lutAddr i + 1) (v.extractLsb' 8 8) }

/-- The word of a FracWrite, R70: the top bit enables, the low half is the value. -/
def fracWord (v : Half) : Word := 0x80000000#32 ||| v.setWidth 32

/-- emit FracWrite, 00_scope.md R19. -/
def State.emitFrac (s : State) (v : Half) : State := { s with outputs := s.outputs ++ [.fracWrite (fracWord v)] }

/-- emit RESYNC_EVT, 10_state.md R70 (c). -/
def State.emitResync (s : State) : State := { s with outputs := s.outputs ++ [.resyncEvt] }

/-- SEND(w), 44_sdm.md R226: always completes and replaces an unread word. -/
def State.send (s : State) (w : Word) : State := { s with mailbox := { slot := w, full := true } }

/-- ILLEGAL_CMD, 60_exceptions.md R301. -/
def errIllegalCmd : BitVec 8 := 0x01#8

/-- NOT_INIT, R301. -/
def errNotInit : BitVec 8 := 0x02#8

/-- MODE, R301. -/
def errMode : BitVec 8 := 0x03#8

/-- BUS, R301. -/
def errBus : BitVec 8 := 0x04#8

/-- CONFIG, R301. -/
def errConfig : BitVec 8 := 0x05#8

/-- raise Error(code), R300: the operation is rejected and only ERR_CODE changes. There is no trap entry (R312). -/
def State.raiseError (s : State) (code : BitVec 8) : State := { s with status := { s.status with errCode := code } }

/-- raise Fatal(cause), R305. -/
def State.raiseFatal (s : State) (cause : BitVec 4) : State :=
  { s with status := { initialised := false, fatal := true, errCode := errConfig, cfgCause := cause } }

/-- A WRITE of any value to STATUS, R309: the only thing a host needs after an error, and it need not (R313). -/
def State.clearError (s : State) : State := { s with status := { s.status with errCode := 0x00#8 } }

/-- Hardware reset, 70_reset_and_hazards.md R340: every element to its reset value, the LUT RAM's contents unspecified
anew, nothing emitted. The parameters and the model's own records are no element of the reset table and stay. -/
def State.hardReset (s : State) : State :=
  { State.powerOn s.params (s.lutEpoch + 1) with
    inputs := s.inputs, orderCount := s.orderCount, outputs := s.outputs, readLog := s.readLog }

end Sys2Proof.Machine
end

