-- ==== Sys2Proof/Machine/Gate.lean ====
section
/-!
DEFINITION. The checks every command passes first, in their order (spec/30_encoding.md R112, spec/60_exceptions.md
R310, R321).
-/

namespace Sys2Proof.Machine

/-- The datapath commands need INITIALISED = 1; NOP and INIT do not (R112, R303). -/
def needsInit : Command → Bool
  | .nop | .init => false
  | .sample | .pfd | .pi | .lut | .publish | .sdmTick => true

/-- SDM_TICK needs MODE = 1 (R112, R304). -/
def needsSdmMode : Command → Bool
  | .sdmTick => true
  | .nop | .init | .sample | .pfd | .pi | .lut | .publish => false

/-- R112 for a legal command: FATAL = 1 ignores it, then NOT_INIT, then MODE, else the command's own rule. -/
def gate (c : Command) (rule : State → State) (s : State) : State :=
  if s.status.fatal then s
  else if needsInit c && !s.status.initialised then s.raiseError errNotInit
  else if needsSdmMode c && !s.mode then s.raiseError errMode
  else rule s

end Sys2Proof.Machine
end

