-- ==== Sys2Proof/Machine/Init.lean ====
section
/-!
DEFINITION. INIT, NOP and RST (spec/46_init_and_host.md R270-R280, spec/70_reset_and_hazards.md R340-R342).
-/

namespace Sys2Proof.Machine

/-- em = LOOP_RATE x PLL_RATIO on the staging values, exact (R271). -/
def Staging.em (g : Staging) : Nat := g.loopRate.toNat * g.pllRatio.toNat

/-- er = REF_INC x LOOP_RATE on the staging values, exact (R271). -/
def Staging.er (g : Staging) : Nat := g.refInc.toNat * g.loopRate.toNat

/-- S_num, R51: floor(2^PRE_DIV_BITS / er) + 1, and 0 with compensation disabled. -/
def Staging.scaleNum (g : Staging) (p : Params) : Nat := if g.er = 0 then 0 else 2 ^ p.preDivBits / g.er + 1

/-- MD, R52. -/
def Staging.maxDiff (g : Staging) : Nat := g.ppmRange.toNat * 2 * g.em / 1000000

/-- W_lim, R53. -/
def Staging.windup (g : Staging) (p : Params) : Nat :=
  if 0 < g.ki.toInt then g.lutN.toNat * 2 ^ p.fracBits / g.ki.toNat else 0

/-- CFGCHECK(), R271: the number of the first check that fails, 0 if none does. -/
def cfgCheck (g : Staging) (p : Params) : Nat :=
  if g.loopRate.toNat = 0 then 1
  else if g.lutN.toNat = 0 ∨ p.lutDepth < g.lutN.toNat then 2
  else if g.lutN.toNat ≤ g.nomIdx.toNat then 3
  else if g.ki.toInt < 0 then 4
  else if 4294967296 ≤ g.em ∨ 4294967296 ≤ g.er then 5
  else if g.er ≠ 0 ∧ 18446744073709551616 ≤ g.em * (g.er + 32767) * g.scaleNum p then 6
  else if 4294967296 ≤ g.maxDiff then 7
  else if 0 < g.ki.toInt ∧ 2147483647 < g.windup p then 8
  else if (g.sdmLimits.extractLsb' 16 16).toInt < (g.sdmLimits.extractLsb' 0 16).toInt then 9
  else 0

/-- The active registers INIT copies, R48. -/
def Staging.toActive (g : Staging) : Active :=
  { ctrl := g.ctrl &&& 0x00001F03#32, kp := g.kp, ki := g.ki, loopRate := g.loopRate, lutN := g.lutN,
    nomIdx := g.nomIdx, sdmLimits := g.sdmLimits }

/-- The derived registers INIT computes, R49-R53. -/
def Staging.toDerived (g : Staging) (p : Params) : Derived :=
  { mclkExpInc := BitVec.ofNat 32 g.em, refExpInc := BitVec.ofNat 32 g.er,
    scaleNum := BitVec.ofNat 64 (g.scaleNum p), maxDiff := BitVec.ofNat 32 g.maxDiff,
    windup := BitVec.ofNat 32 (g.windup p) }

/-- LOAD(), R272: the column "INIT" of the reset table (10_state.md R73). -/
def load (s : State) : State :=
  { s with
    active := s.staging.toActive
    derived := s.staging.toDerived s.params
    seq := { loopCounter := 0, firstLoop := true }
    pfd := { mclkLast := 0, refLast := 0, lastDiff := 0, resync := false }
    pi := { accum := 0, lastControl := 0 }
    lock := { countdown := s.params.lockCount, status := unlockedLow,
              currentValue := s.lutRead s.staging.nomIdx.toNat }
    mailbox := { slot := 0, full := false }
    sdm := { hold := 0, e1 := 0, e2 := 0, out := 0 }
    host := { s.host with result0 := 0, result1 := 0 }
    status := { s.status with initialised := true } }

/-- The rule of INIT, R270: the first failing check is fatal. -/
def initRule (s : State) : State :=
  if cfgCheck s.staging s.params = 0 then load s
  else s.raiseFatal (BitVec.ofNat 4 (cfgCheck s.staging s.params))

/-- A CMD write of INIT. -/
def commandInit (s : State) : State := gate .init initRule s

/-- INIT, R270. -/
def execInit (s : State) : Host.Outcome State Fault Refusal := .next (commandInit s)

/-- The rule of NOP, R280: nothing. -/
def nopRule (s : State) : State := s

/-- A CMD write of NOP. -/
def commandNop (s : State) : State := gate .nop nopRule s

/-- NOP, R280. -/
def execNop (s : State) : Host.Outcome State Fault Refusal := .next (commandNop s)

/-- RST, R340. -/
def execRst (s : State) : Host.Outcome State Fault Refusal := .next s.hardReset

end Sys2Proof.Machine
end

