-- ==== Sys2Proof/Machine/Lut.lean ====
section
/-!
DEFINITION. The LUT selector, the lock state machine and the LUT command (spec/43_lut_lock.md R200-R210).
-/

namespace Sys2Proof.Machine

/-- idx = NOM - c, R200: exact. -/
def State.lutIndex (s : State) (c : Int) : Int := (s.active.nomIdx.toNat : Int) - c

/-- The selected index, R201: idx clamped to [0, N-1]. -/
def State.lutSelect (s : State) (c : Int) : Nat :=
  if s.lutIndex c < 0 then 0
  else if (s.active.lutN.toNat : Int) ≤ s.lutIndex c then s.active.lutN.toNat - 1
  else (s.lutIndex c).toNat

/-- The lock state after a selection, R202-R204, with the value selected as CURRENT_VALUE (R205). -/
def State.lockNext (s : State) (c : Int) (v : Half) : LockState :=
  if s.lutIndex c < 0 then { countdown := s.params.lockCount, status := unlockedLow, currentValue := v }
  else if (s.active.lutN.toNat : Int) ≤ s.lutIndex c then
    { countdown := s.params.lockCount, status := unlockedHigh, currentValue := v }
  else if s.lock.countdown = 0#32 then { s.lock with status := locked, currentValue := v }
  else { s.lock with countdown := s.lock.countdown - 1#32, currentValue := v }

/-- LUTSEL(c), R201: the register value and the state after. -/
def lutFunction (c : Int) (s : State) : Half × State :=
  let v := s.lutRead (s.lutSelect c)
  (v, { s with lock := s.lockNext c v })

/-- The rule of the LUT command, R206: no FracWrite. -/
def lutRule (s : State) : State :=
  let (v, t) := lutFunction s.argControl s
  { t with host := { t.host with result0 := v.setWidth 32, result1 := t.lockCode } }

/-- A CMD write of LUT. -/
def commandLut (s : State) : State := gate .lut lutRule s

/-- LUT, R206. -/
def execLut (s : State) : Host.Outcome State Fault Refusal := .next (commandLut s)

end Sys2Proof.Machine
end

