-- ==== Sys2Proof/Machine/Pfd.lean ====
section
/-!
DEFINITION. The phase-frequency detector and the PFD command (spec/41_pfd.md R160-R170).
-/

namespace Sys2Proof.Machine

/-- ref_diff, R162: the reference sample against REF_LAST advanced by E_r. -/
def State.refDiff (s : State) (r : Half) : Int := diff16 r (add16 s.pfd.refLast s.er)

/-- inc, R164: the reciprocal multiply and logical shift, truncated to 32 bits. -/
def State.scaledInc (s : State) (refDiff : Int) : Word :=
  ((mul64u s.em (s.er + refDiff) s.snum) >>> s.params.preDivBits).setWidth 32

/-- mclk_exp: R161 with compensation disabled, R162 and R164 with it enabled. -/
def State.mclkExp (s : State) (r : Half) : Half :=
  if s.er = 0 then add16 s.pfd.mclkLast s.em
  else add16 s.pfd.mclkLast (s.scaledInc (s.refDiff r)).toNat

/-- What the PFD function returns. -/
structure PfdResult where
  /-- pe, in [-32768, 32767]. -/
  phaseError : Int
  /-- rs, the resync flag. -/
  resync : Bool
  deriving DecidableEq, Repr

/-- PFD(m, r), R160. REF_LAST is written only with compensation enabled (R163), MCLK_LAST never. -/
def pfdFunction (m r : Half) (s : State) : PfdResult × State :=
  let pe := diff16 m (s.mclkExp r)
  let rs := s.desync pe
  ({ phaseError := pe, resync := rs },
   { s with
     pfd := { s.pfd with
       refLast := if s.er = 0 then s.pfd.refLast else r
       lastDiff := BitVec.ofInt 16 pe
       resync := rs } })

/-- The rule of the PFD command, R167. -/
def pfdRule (s : State) : State :=
  let (res, t) := pfdFunction s.argMclk s.argRef s
  { t with
    host := { t.host with
      result0 := BitVec.ofInt 32 res.phaseError
      result1 := if res.resync then 1#32 else 0#32 } }

/-- A CMD write of PFD. -/
def commandPfd (s : State) : State := gate .pfd pfdRule s

/-- PFD, R167. -/
def execPfd (s : State) : Host.Outcome State Fault Refusal := .next (commandPfd s)

end Sys2Proof.Machine
end

