-- ==== Sys2Proof/Machine/Pi.lean ====
section
/-!
DEFINITION. The PI controller and the PI command (spec/42_pi.md R180-R186).
-/

namespace Sys2Proof.Machine

/-- The control signal before narrowing, R182: exact products, exact sum, arithmetic shift. -/
def State.controlSum (s : State) (e acc : Int) : Int :=
  asr (s.active.kp.toInt * e + s.active.ki.toInt * acc) s.params.fracBits

/-- PI(e), R180: the new accumulator enters the integral product (R181), the shifted sum is narrowed to 32 bits (R183). -/
def piFunction (e : Int) (s : State) : Int × State :=
  let acc := satAcc s.pi.accum.toInt e s.wlim
  let c := narrow32 (s.controlSum e acc)
  (c, { s with pi := { accum := BitVec.ofInt 32 acc, lastControl := BitVec.ofInt 32 c } })

/-- The rule of the PI command, R184. -/
def piRule (s : State) : State :=
  let (c, t) := piFunction s.argError s
  { t with host := { t.host with result0 := BitVec.ofInt 32 c } }

/-- A CMD write of PI. -/
def commandPi (s : State) : State := gate .pi piRule s

/-- PI, R184. -/
def execPi (s : State) : Host.Outcome State Fault Refusal := .next (commandPi s)

end Sys2Proof.Machine
end

