-- ==== Sys2Proof/Machine/Sdm.lean ====
section
/-!
DEFINITION. The mailbox receive, the sigma-delta modulator, the commands PUBLISH and SDM_TICK and the TICK event
(spec/44_sdm.md R220-R234).
-/

namespace Sys2Proof.Machine

/-- The non-blocking receive, R228: SLOT keeps its value. -/
def State.receive (s : State) : State :=
  if s.mailbox.full then
    { s with mailbox := { s.mailbox with full := false }, sdm := { s.sdm with hold := s.mailbox.slot } }
  else s

/-- v, R223 (first order) and R224 (second order): exact. -/
def State.sdmSum (s : State) : Int :=
  if s.sdmOrder then s.sdm.hold.toInt + 2 * s.sdm.e1.toInt - s.sdm.e2.toInt
  else s.sdm.hold.toInt + s.sdm.e1.toInt

/-- y, R222: the nearest level, clamped to [LO, HI]. -/
def State.sdmLevel (s : State) (v : Int) : Int := clamp (qround v s.sdmQbits) s.outMin s.outMax

/-- The modulator after the receive: the error history, the stored error (R225) and the level (R229). -/
def State.modulate (s : State) (v y : Int) : SdmState :=
  { hold := s.sdm.hold
    e1 := BitVec.ofInt 32 (sat32 (v - y * ((2 ^ s.sdmQbits : Nat) : Int)))
    e2 := s.sdm.e1
    out := BitVec.ofInt 16 y }

/-- SDMSTEP(), R229: the level and the state after, one FracWrite emitted. -/
def sdmStep (s : State) : Int × State :=
  let t := s.receive
  let v := t.sdmSum
  let y := t.sdmLevel v
  (y, { t with sdm := t.modulate v y }.emitFrac (BitVec.ofInt 16 y))

/-- The rule of PUBLISH, R230. -/
def publishRule (s : State) : State := s.send s.argWord

/-- A CMD write of PUBLISH. -/
def commandPublish (s : State) : State := gate .publish publishRule s

/-- PUBLISH, R230. -/
def execPublish (s : State) : Host.Outcome State Fault Refusal := .next (commandPublish s)

/-- The rule of SDM_TICK, R231. -/
def sdmTickRule (s : State) : State :=
  let (y, t) := sdmStep s
  { t with host := { t.host with result0 := (BitVec.ofInt 16 y).setWidth 32 } }

/-- A CMD write of SDM_TICK. -/
def commandSdmTick (s : State) : State := gate .sdmTick sdmTickRule s

/-- SDM_TICK, R231. -/
def execSdmTick (s : State) : Host.Outcome State Fault Refusal := .next (commandSdmTick s)

/-- The TICK event, R232: performed while running in SDM mode, else ignored. -/
def tickEvent (s : State) : State := if s.running && s.mode then (sdmStep s).2 else s

/-- TICK, R232. -/
def execTick (s : State) : Host.Outcome State Fault Refusal := .next (tickEvent s)

end Sys2Proof.Machine
end

