-- ==== Sys2Proof/Machine/Sequencer.lean ====
section
/-!
DEFINITION. The control-loop sequencer, the SAMPLE command and the EDGE event (spec/45_sequencer.md R250-R259).
-/

namespace Sys2Proof.Machine

/-- The kind of a step, R250 and R251. -/
inductive UpdateKind where
  | none | first | steady | resync
  deriving DecidableEq, Repr

/-- code(kind), R256. -/
def UpdateKind.code : UpdateKind → Word
  | .none => 0#32
  | .first => 1#32
  | .steady => 2#32
  | .resync => 3#32

/-- FIRSTLOOP(m, r), R252. -/
def firstLoopUpdate (m r : Half) (s : State) : State :=
  { s with
    pfd := { s.pfd with
      mclkLast := m
      refLast := if s.params.seedRefOnFirst && decide (s.er ≠ 0) then r else s.pfd.refLast }
    pi := { s.pi with accum := 0#32 }
    lock := { s.lock with countdown := s.params.lockCount, status := unlockedLow }
    seq := { s.seq with firstLoop := false } }

/-- RESYNC_ACTION(m), R255. -/
def resyncAction (m : Half) (s : State) : State :=
  { s with seq := { s.seq with firstLoop := true }, pfd := { s.pfd with mclkLast := m } }.emitResync

/-- The actuator half of ACTUATE, R254: a LUT selection and a FracWrite in LUT mode, a mailbox send in SDM mode. -/
def drive (c : Int) (s : State) : State :=
  if s.mode then s.send (BitVec.ofInt 32 c)
  else
    let (v, t) := lutFunction c s
    t.emitFrac v

/-- ACTUATE(m, pe), R254. -/
def actuate (m : Half) (pe : Int) (s : State) : State :=
  let (c, t) := piFunction pe s
  let u := drive c t
  { u with pfd := { u.pfd with mclkLast := m } }

/-- UPDATE(m, r), R251. -/
def controlUpdate (m r : Half) (s : State) : UpdateKind × State :=
  if s.seq.firstLoop then (.first, firstLoopUpdate m r s)
  else
    let (res, t) := pfdFunction m r s
    if res.resync then (.resync, resyncAction m t)
    else (.steady, actuate m res.phaseError t)

/-- STEP(m, r), R250: decimation. -/
def edgeStep (m r : Half) (s : State) : UpdateKind × State :=
  if s.seq.loopCounter + 1#32 = s.active.loopRate then
    controlUpdate m r { s with seq := { s.seq with loopCounter := 0#32 } }
  else (.none, { s with seq := { s.seq with loopCounter := s.seq.loopCounter + 1#32 } })

/-- The rule of SAMPLE, R256. -/
def sampleRule (s : State) : State :=
  let (kind, t) := edgeStep s.argMclk s.argRef s
  { t with host := { t.host with result0 := kind.code, result1 := t.lockCode } }

/-- A CMD write of SAMPLE. -/
def commandSample (s : State) : State := gate .sample sampleRule s

/-- SAMPLE, R256. -/
def execSample (s : State) : Host.Outcome State Fault Refusal := .next (commandSample s)

/-- The EDGE event, R258: performed while running, else ignored. -/
def edgeEvent (m r : Half) (s : State) : State := if s.running then (edgeStep m r s).2 else s

/-- EDGE, R258. -/
def execEdge (m r : Half) (s : State) : Host.Outcome State Fault Refusal := .next (edgeEvent m r s)

end Sys2Proof.Machine
end

