-- ==== Sys2Proof/Machine/Bus.lean ====
section
/-!
DEFINITION. The register map and the host bus transactions READ and WRITE (spec/20_memory.md R80-R88,
spec/46_init_and_host.md R285, R286), and executing a command word (spec/30_encoding.md R112).
-/

namespace Sys2Proof.Machine

/-- The registers of the map, 20_memory.md R84. -/
inductive Reg where
  | ctrl | kp | ki | loopRate | pllRatio | refInc | lutN | nomIdx | ppmRange | sdmLimits
  | arg0 | arg1 | cmd | result0 | result1 | status
  | aCtrl | aKp | aKi | aLoopRate | aLutN | aNomIdx | aSdmLimits
  | mclkExpInc | refExpInc | scaleNumLo | scaleNumHi | maxDiff | windup
  | loopCounter | mclkLast | refLast | lastDiff | accum | lastControl | lockCountdown | currentValue
  | slot | sdmHold | sdmE1 | sdmE2 | sdmOut
  deriving DecidableEq, Repr

/-- The register at a byte offset, R84; the gaps of R85 have none. -/
def regAt : Nat → Option Reg
  | 0x000 => some .ctrl
  | 0x004 => some .kp
  | 0x008 => some .ki
  | 0x00C => some .loopRate
  | 0x010 => some .pllRatio
  | 0x014 => some .refInc
  | 0x018 => some .lutN
  | 0x01C => some .nomIdx
  | 0x020 => some .ppmRange
  | 0x024 => some .sdmLimits
  | 0x040 => some .arg0
  | 0x044 => some .arg1
  | 0x048 => some .cmd
  | 0x04C => some .result0
  | 0x050 => some .result1
  | 0x054 => some .status
  | 0x080 => some .aCtrl
  | 0x084 => some .aKp
  | 0x088 => some .aKi
  | 0x08C => some .aLoopRate
  | 0x090 => some .aLutN
  | 0x094 => some .aNomIdx
  | 0x098 => some .aSdmLimits
  | 0x0A0 => some .mclkExpInc
  | 0x0A4 => some .refExpInc
  | 0x0A8 => some .scaleNumLo
  | 0x0AC => some .scaleNumHi
  | 0x0B0 => some .maxDiff
  | 0x0B4 => some .windup
  | 0x0C0 => some .loopCounter
  | 0x0C4 => some .mclkLast
  | 0x0C8 => some .refLast
  | 0x0CC => some .lastDiff
  | 0x0D0 => some .accum
  | 0x0D4 => some .lastControl
  | 0x0D8 => some .lockCountdown
  | 0x0DC => some .currentValue
  | 0x0E0 => some .slot
  | 0x0E4 => some .sdmHold
  | 0x0E8 => some .sdmE1
  | 0x0EC => some .sdmE2
  | 0x0F0 => some .sdmOut
  | _ => none

/-- What a bus address names. -/
inductive Location where
  | reg (r : Reg)
  | lut (i : Nat)
  deriving DecidableEq, Repr

/-- The location at a bus address; none for a misaligned (R83) or unmapped (R85) one. -/
def State.locate (s : State) (a : Addr) : Option Location :=
  if a.extractLsb' 0 2 ≠ 0#2 then none
  else if a.toNat < 0x40000 then (regAt a.toNat).map .reg
  else if (a.toNat - 0x40000) / 4 < s.params.lutDepth then some (.lut ((a.toNat - 0x40000) / 4))
  else none

/-- VIEW(a) of a register, R285. -/
def State.viewReg (s : State) : Reg → Word
  | .ctrl => s.staging.ctrl
  | .kp => s.staging.kp
  | .ki => s.staging.ki
  | .loopRate => s.staging.loopRate
  | .pllRatio => s.staging.pllRatio
  | .refInc => s.staging.refInc
  | .lutN => s.staging.lutN
  | .nomIdx => s.staging.nomIdx
  | .ppmRange => s.staging.ppmRange
  | .sdmLimits => s.staging.sdmLimits
  | .arg0 => s.host.arg0
  | .arg1 => s.host.arg1
  | .cmd => 0#32
  | .result0 => s.host.result0
  | .result1 => s.host.result1
  | .status => s.statusWord
  | .aCtrl => s.active.ctrl
  | .aKp => s.active.kp
  | .aKi => s.active.ki
  | .aLoopRate => s.active.loopRate
  | .aLutN => s.active.lutN
  | .aNomIdx => s.active.nomIdx
  | .aSdmLimits => s.active.sdmLimits
  | .mclkExpInc => s.derived.mclkExpInc
  | .refExpInc => s.derived.refExpInc
  | .scaleNumLo => s.derived.scaleNum.extractLsb' 0 32
  | .scaleNumHi => s.derived.scaleNum.extractLsb' 32 32
  | .maxDiff => s.derived.maxDiff
  | .windup => s.derived.windup
  | .loopCounter => s.seq.loopCounter
  | .mclkLast => s.pfd.mclkLast.setWidth 32
  | .refLast => s.pfd.refLast.setWidth 32
  | .lastDiff => s.pfd.lastDiff.signExtend 32
  | .accum => s.pi.accum
  | .lastControl => s.pi.lastControl
  | .lockCountdown => s.lock.countdown
  | .currentValue => s.lock.currentValue.setWidth 32
  | .slot => s.mailbox.slot
  | .sdmHold => s.sdm.hold
  | .sdmE1 => s.sdm.e1
  | .sdmE2 => s.sdm.e2
  | .sdmOut => s.sdm.out.setWidth 32

/-- VIEW(a), R285. -/
def State.view (s : State) : Location → Word
  | .reg r => s.viewReg r
  | .lut i => (s.lutRead i).setWidth 32

/-- The word a READ of an address returns, R285: 0 for a misaligned or unmapped one. -/
def State.readValue (s : State) (a : Addr) : Word :=
  match s.locate a with
  | some l => s.view l
  | none => 0#32

/-- READ(a), R285: the word returned is recorded in the model's readLog; only a BUS error changes the block. -/
def busRead (a : Addr) (s : State) : State :=
  let t := match s.locate a with
    | some _ => s
    | none => s.raiseError errBus
  { t with readLog := t.readLog ++ [s.readValue a] }

/-- READ, R285. -/
def execRead (a : Addr) (s : State) : Host.Outcome State Fault Refusal := .next (busRead a s)

/-- A CMD write of a legal command word, R112 and R113. -/
def runCommand : Command → State → State
  | .nop, s => commandNop s
  | .init, s => commandInit s
  | .sample, s => commandSample s
  | .pfd, s => commandPfd s
  | .pi, s => commandPi s
  | .lut, s => commandLut s
  | .publish, s => commandPublish s
  | .sdmTick, s => commandSdmTick s

/-- EXECUTE(w), R112: FATAL = 1 ignores any word, an illegal one raises ILLEGAL_CMD. -/
def execute (w : Word) (s : State) : State :=
  match decodeCommand w with
  | .ok c => runCommand c s
  | .error _ => if s.status.fatal then s else s.raiseError errIllegalCmd

/-- A WRITE of a word to a register, R286; a read-only register ignores it (20_memory.md R88). -/
def writeReg (r : Reg) (d : Word) (s : State) : State :=
  match r with
  | .ctrl => { s with staging := { s.staging with ctrl := d &&& 0x00001F03#32 } }
  | .kp => { s with staging := { s.staging with kp := d } }
  | .ki => { s with staging := { s.staging with ki := d } }
  | .loopRate => { s with staging := { s.staging with loopRate := d } }
  | .pllRatio => { s with staging := { s.staging with pllRatio := d } }
  | .refInc => { s with staging := { s.staging with refInc := d } }
  | .lutN => { s with staging := { s.staging with lutN := d } }
  | .nomIdx => { s with staging := { s.staging with nomIdx := d } }
  | .ppmRange => { s with staging := { s.staging with ppmRange := d } }
  | .sdmLimits => { s with staging := { s.staging with sdmLimits := d } }
  | .arg0 => { s with host := { s.host with arg0 := d } }
  | .arg1 => { s with host := { s.host with arg1 := d } }
  | .cmd => execute d s
  | .status => s.clearError
  | .result0 | .result1 | .aCtrl | .aKp | .aKi | .aLoopRate | .aLutN | .aNomIdx | .aSdmLimits | .mclkExpInc
  | .refExpInc | .scaleNumLo | .scaleNumHi | .maxDiff | .windup | .loopCounter | .mclkLast | .refLast | .lastDiff
  | .accum | .lastControl | .lockCountdown | .currentValue | .slot | .sdmHold | .sdmE1 | .sdmE2 | .sdmOut => s

/-- WRITE(a, D), R286. -/
def busWrite (a : Addr) (d : Word) (s : State) : State :=
  match s.locate a with
  | some (.reg r) => writeReg r d s
  | some (.lut i) => s.lutWrite i (d.extractLsb' 0 16)
  | none => s.raiseError errBus

/-- WRITE, R286. -/
def execWrite (a : Addr) (d : Word) (s : State) : Host.Outcome State Fault Refusal := .next (busWrite a d s)

end Sys2Proof.Machine
end

