-- ==== Sys2Proof/Machine/Dispatch.lean ====
section
/-! DEFINITION. One arm per operation of spec/opcode_table.json. -/

namespace Sys2Proof.Machine

def exec (i : Instr) (s : State) : Host.Outcome State Fault Refusal :=
  match i with
  | .nop => Sys2Proof.Machine.execNop s
  | .init => Sys2Proof.Machine.execInit s
  | .sample => Sys2Proof.Machine.execSample s
  | .pfd => Sys2Proof.Machine.execPfd s
  | .pi => Sys2Proof.Machine.execPi s
  | .lut => Sys2Proof.Machine.execLut s
  | .publish => Sys2Proof.Machine.execPublish s
  | .sdmTick => Sys2Proof.Machine.execSdmTick s
  | .read addr => Sys2Proof.Machine.execRead addr s
  | .write addr data => Sys2Proof.Machine.execWrite addr data s
  | .edge m r => Sys2Proof.Machine.execEdge m r s
  | .tick => Sys2Proof.Machine.execTick s
  | .rst => Sys2Proof.Machine.execRst s

end Sys2Proof.Machine
end

