-- ==== Sys2Proof/Machine/Inputs.lean ====
section
/-!
DEFINITION. How the stimuli that arrive at the block's ports become single operations (spec/20_memory.md R94-R96,
spec/30_encoding.md R110, R118): simultaneous ones are performed one after another in an order the block does not
specify, and a hardware reset last.
-/

namespace Sys2Proof.Machine

/-- The stimuli of one arrival that may be performed next, each with what of the arrival is left. RST is among them
only when nothing else is (R96). -/
def candidates (a : Arrival) : List (Stimulus × Arrival) :=
  let edge := if a.event.getLsbD 0 then [(Stimulus.event 0b01#2 a.payload, { a with event := a.event &&& 0b10#2 })] else []
  let tick := if a.event.getLsbD 1 then [(Stimulus.event 0b10#2 a.payload, { a with event := a.event &&& 0b01#2 })] else []
  let bus := match a.bus with
    | some (header, data) => [(Stimulus.bus header data, { a with bus := none })]
    | none => []
  match edge ++ tick ++ bus with
  | [] => if a.reset then [(Stimulus.reset, { a with reset := false })] else []
  | cs => cs

/-- Whether an arrival presents nothing: event word 0b00, no transaction, RST not asserted. -/
def Arrival.isEmpty (a : Arrival) : Bool := (candidates a).isEmpty

/-- What is left of an arrival goes back to the head of the inputs, unless it presents nothing. -/
def requeue (left : Arrival) (rest : List Arrival) : List Arrival :=
  if Arrival.isEmpty left then rest else left :: rest

/-- The candidate numbered by the free order, counted around the list (log entry 6). -/
def chooseFrom (first : Stimulus × Arrival) (others : List (Stimulus × Arrival)) (n : Nat) : Stimulus × Arrival :=
  ((first :: others)[Config.simultaneousOrder n % (others.length + 1)]?).getD first

/-- The next stimulus and the state from which it is performed; none when the first arrival presents nothing or no
input is left. The free order is read only where there is a choice. -/
def State.takeStimulus (s : State) : Option (Stimulus × State) :=
  match s.inputs with
  | [] => none
  | a :: rest =>
    match candidates a with
    | [] => none
    | [(st, left)] => some (st, { s with inputs := requeue left rest })
    | c :: cs =>
      some ((chooseFrom c cs s.orderCount).1,
        { s with inputs := requeue (chooseFrom c cs s.orderCount).2 rest, orderCount := s.orderCount + 1 })

/-- Between events the block is idle and holds all its state (60_exceptions.md R322); an arrival that presents nothing
is no event (30_encoding.md R118) and is dropped. -/
def State.idle (s : State) : State := { s with inputs := s.inputs.tail }

/-- An arrival that presents one stimulus alone. -/
def arrivalOf : Stimulus → Arrival
  | .bus header data => { event := 0b00#2, payload := 0#32, bus := some (header, data), reset := false }
  | .event word payload => { event := word, payload := payload, bus := none, reset := false }
  | .reset => { event := 0b00#2, payload := 0#32, bus := none, reset := true }

end Sys2Proof.Machine
end

