-- ==== Sys2Proof/Machine/Step.lean ====
section
/-!
DEFINITION. One step: the next stimulus that has arrived is decoded and performed (spec/20_memory.md R94, R95).
-/

namespace Sys2Proof.Machine

/-- Performs one operation; idles when nothing presents itself; refuses, by the decoder's name for it, a raw form that
is no operation. -/
def step (s : State) : Host.Outcome State Fault Refusal :=
  match s.takeStimulus with
  | none => .next s.idle
  | some (st, t) =>
    match decode st with
    | .ok i => exec i t
    | .error e => .refused (.notAnOperation e)

/-- s with the stimulus a word of spec/opcode_table.json stands for arriving first (log entries 5 and 9). -/
def State.withFetchWord (s : State) (nbits w : Nat) : State :=
  { s with inputs := arrivalOf (tableStimulus nbits w) :: s.inputs }

end Sys2Proof.Machine
end

