-- ==== Sys2Proof/Safety.lean ====
section
/-!
DEFINITION. What counts as a good state and a safe run: the configuration a successful INIT leaves (spec/46_init_and_host.md
R271-R273), the invariants of spec/10_state.md R72 with the facts that keep them, and the inputs on which no step stops.
-/

namespace Sys2Proof.Machine

/-- What the active and derived registers satisfy from a successful INIT on (46_init_and_host.md R271, R272). -/
structure Configured (s : State) : Prop where
  /-- Check 2: 1 <= N <= LUT_DEPTH. -/
  lutLength : 1 ≤ s.active.lutN.toNat ∧ s.active.lutN.toNat ≤ s.params.lutDepth
  /-- Check 3: the nominal index selects a table entry. -/
  nominalInTable : s.active.nomIdx.toNat < s.active.lutN.toNat
  /-- Check 4. -/
  integralGainNonneg : 0 ≤ s.active.ki.toInt
  /-- Check 9: the level range is not empty. -/
  levelRange : s.outMin ≤ s.outMax
  /-- The windup limit, 10_state.md R53. -/
  windupValue : s.wlim =
    if 0 < s.active.ki.toInt then s.active.lutN.toNat * 2 ^ s.params.fracBits / s.active.ki.toNat else 0
  /-- The scaling numerator, 10_state.md R51. -/
  scaleValue : s.snum = if s.er = 0 then 0 else 2 ^ s.params.preDivBits / s.er + 1
  /-- Check 6: the width budget, R273. -/
  widthBudget : s.er ≠ 0 → s.em * (s.er + 32767) * s.snum < 18446744073709551616

/-- The invariant of every reachable state: 10_state.md R72 and what it rests on. -/
structure Inv (s : State) : Prop where
  /-- 00_scope.md R8-R11. -/
  paramsLegal : s.params.Legal
  /-- The LUT RAM's list is canonical. -/
  memoryCanonical : Memory.wf s.mem = true
  /-- Only bytes of LUT RAM entries are listed (20_memory.md R86). -/
  memoryInside : ∀ c ∈ s.mem, 0x40000 ≤ c.1 ∧ c.1 < 0x40000 + 4 * s.params.lutDepth ∧ c.1 % 4 < 2
  /-- R33: the reserved bits of CTRL read 0. -/
  ctrlReserved : s.staging.ctrl &&& ~~~0x00001F03#32 = 0#32
  /-- R48: A_CTRL has the same fields. -/
  activeCtrlReserved : s.active.ctrl &&& ~~~0x00001F03#32 = 0#32
  /-- R53: WINDUP is in [0, 2^31 - 1]. -/
  windupBound : s.wlim ≤ 2147483647
  /-- R72 (i). -/
  counterBelowRate : s.status.initialised = true → s.seq.loopCounter.toNat < s.active.loopRate.toNat
  /-- R72 (ii). -/
  accumBound : -(s.wlim : Int) ≤ s.pi.accum.toInt ∧ s.pi.accum.toInt ≤ s.wlim
  /-- R72 (iii): the lock code 0b10 is never written. -/
  lockCodeLegal : s.lock.status = unlockedLow ∨ s.lock.status = locked ∨ s.lock.status = unlockedHigh
  /-- R72 (iv). -/
  lockedMeansZero : s.lock.status = locked → s.lock.countdown = 0#32
  /-- R72 (vi): the last level is in range once a tick has run; before that the modulator holds its INIT values. -/
  levelInRange : s.status.initialised = true →
    (s.outMin ≤ s.sdm.out.toInt ∧ s.sdm.out.toInt ≤ s.outMax) ∨ s.sdm = { hold := 0, e1 := 0, e2 := 0, out := 0 }
  /-- 60_exceptions.md R305: the fatal state is not initialised. -/
  fatalNotInitialised : s.status.fatal = true → s.status.initialised = false
  /-- 60_exceptions.md R307: CFG_CAUSE names a check exactly in the fatal state. -/
  causeNamed : s.status.cfgCause.toNat ≤ 9 ∧ (s.status.fatal = true ↔ s.status.cfgCause ≠ 0#4)
  /-- 60_exceptions.md R301: codes 0x06-0xFF are never written. -/
  errorCodeLegal : s.status.errCode.toNat ≤ 5
  /-- 46_init_and_host.md R271: a running block has an accepted configuration. -/
  configured : s.status.initialised = true → Configured s

/-- An arrival whose bus header, if any, has RSV zero: "no hardware transaction has that form" otherwise
(30_encoding.md R117). -/
def Arrival.legal (a : Arrival) : Bool :=
  match a.bus with
  | some (header, _) => header.extractLsb' 20 11 == 0#11
  | none => true

/-- The inputs hold no raw form that is no transaction. -/
def State.inputsLegal (s : State) : Bool := s.inputs.all Arrival.legal

/-- A state from which a step is taken: no fault, no refusal. -/
def Progresses (s : State) : Prop := ∃ t, step s = .next t

end Sys2Proof.Machine
end

