-- ==== Sys2Proof/Certificates/Slice0/Obligations.lean ====
section
/-!
DEFINITION. The statements about SWPLL-CORE, from the numbered rules of spec/. The definitions of Sys2Proof.Spec give a
rule's arithmetic over exact integers (spec/00_scope.md R16, R17), apart from the model's own helpers, so that a statement
that equates an operation's next state with them says something of the model.
-/

namespace Sys2Proof.Spec

open Sys2Proof.Machine

/-- s_N(x), 00_scope.md R16. -/
def wrap (n : Nat) (x : Int) : Int := x.bmod (2 ^ n)

/-- u_N(x), 00_scope.md R16. -/
def unsigned (n : Nat) (x : Int) : Int := x % (2 ^ n : Nat)

/-- ref_diff of 41_pfd.md R162. -/
def refDeviation (s : State) (r : Half) : Int := wrap 16 ((r.toNat : Int) - (s.pfd.refLast.toNat + s.er))

/-- inc of 41_pfd.md R164. -/
def increment (s : State) (deviation : Int) : Int :=
  unsigned 32 (unsigned 64 (s.em * (s.er + deviation) * s.snum) / (2 ^ s.params.preDivBits : Nat))

/-- mclk_exp of 41_pfd.md R161 and R162, before it is reduced to the ring. -/
def expectedSample (s : State) (r : Half) : Int :=
  (s.pfd.mclkLast.toNat : Int) + (if s.er = 0 then (s.em : Int) else increment s (refDeviation s r))

/-- pe of 41_pfd.md R165. -/
def phaseError (s : State) (m r : Half) : Int := wrap 16 ((m.toNat : Int) - expectedSample s r)

/-- rs of 41_pfd.md R166. -/
def desync (s : State) (m r : Half) : Bool := decide (s.md < (phaseError s m r).natAbs)

/-- The PFD's registers after PFD(m, r), 41_pfd.md R160 and R163. -/
def pfdAfter (s : State) (m r : Half) : PfdState :=
  { mclkLast := s.pfd.mclkLast
    refLast := if s.er = 0 then s.pfd.refLast else r
    lastDiff := BitVec.ofInt 16 (phaseError s m r)
    resync := desync s m r }

/-- ACCUM after PI(e), 42_pi.md R181. -/
def accumulate (s : State) (e : Int) : Int := max (-(s.wlim : Int)) (min (s.pi.accum.toInt + e) s.wlim)

/-- The control signal of PI(e), 42_pi.md R180, R182, R183. -/
def controlSignal (s : State) (e : Int) : Int :=
  wrap 32 ((s.active.kp.toInt * e + s.active.ki.toInt * accumulate s e) / (2 ^ s.params.fracBits : Nat))

/-- The PI controller's registers after PI(e), 42_pi.md R180. -/
def piAfter (s : State) (e : Int) : PiState :=
  { accum := BitVec.ofInt 32 (accumulate s e), lastControl := BitVec.ofInt 32 (controlSignal s e) }

/-- The selected index of 43_lut_lock.md R200 and R201: NOM - c clamped to [0, N-1]. -/
def selected (s : State) (c : Int) : Nat :=
  (max 0 (min ((s.active.nomIdx.toNat : Int) - c) ((s.active.lutN.toNat : Int) - 1))).toNat

/-- The lock registers after LUTSEL(c), 43_lut_lock.md R202-R205. -/
def lockAfter (s : State) (c : Int) : LockState :=
  if (s.active.nomIdx.toNat : Int) < c then
    { countdown := s.params.lockCount, status := 0b11#2, currentValue := s.lutRead (selected s c) }
  else if (s.active.lutN.toNat : Int) ≤ s.active.nomIdx.toNat - c then
    { countdown := s.params.lockCount, status := 0b01#2, currentValue := s.lutRead (selected s c) }
  else
    { countdown := BitVec.ofNat 32 (s.lock.countdown.toNat - 1)
      status := if s.lock.countdown.toNat = 0 then 0b00#2 else s.lock.status
      currentValue := s.lutRead (selected s c) }

/-- The word of a FracWrite, 10_state.md R70. -/
def fracWriteOf (v : Half) : Output := .fracWrite (BitVec.ofNat 32 (2 ^ 31 + v.toNat))

/-- x of 44_sdm.md R221 with the receive of R228 done. -/
def sdmInput (s : State) : Word := if s.mailbox.full then s.mailbox.slot else s.sdm.hold

/-- v of 44_sdm.md R223 and R224. -/
def sdmSum (s : State) : Int :=
  if s.sdmOrder then (sdmInput s).toInt + 2 * s.sdm.e1.toInt - s.sdm.e2.toInt
  else (sdmInput s).toInt + s.sdm.e1.toInt

/-- The nearest level, ties toward plus infinity, 44_sdm.md R222: floor(v / 2^Q + 1/2). -/
def nearestLevel (s : State) : Int := (2 * sdmSum s + (2 ^ s.sdmQbits : Nat)) / (2 ^ (s.sdmQbits + 1) : Nat)

/-- y of 44_sdm.md R229. -/
def level (s : State) : Int := min (max (nearestLevel s) s.outMin) s.outMax

/-- The state after SDMSTEP(), 44_sdm.md R229. -/
def sdmAfter (s : State) : State :=
  { s with
    mailbox := { s.mailbox with full := false }
    sdm :=
      { hold := sdmInput s
        e1 := BitVec.ofInt 32
          (max (-2147483648) (min (sdmSum s - level s * (2 ^ s.sdmQbits : Nat)) 2147483647))
        e2 := s.sdm.e1
        out := BitVec.ofInt 16 (level s) }
    outputs := s.outputs ++ [fracWriteOf (BitVec.ofInt 16 (level s))] }

/-- em, er and s of 46_init_and_host.md R271. -/
def initEm (g : Staging) : Nat := g.loopRate.toNat * g.pllRatio.toNat
/-- er of 46_init_and_host.md R271. -/
def initEr (g : Staging) : Nat := g.refInc.toNat * g.loopRate.toNat
/-- S_num of 46_init_and_host.md R272. -/
def initScale (g : Staging) (p : Params) : Nat :=
  if initEr g = 0 then 0 else 2 ^ p.preDivBits / initEr g + 1
/-- MD of 46_init_and_host.md R272. -/
def initMaxDiff (g : Staging) : Nat := g.ppmRange.toNat * 2 * initEm g / 1000000
/-- W_lim of 46_init_and_host.md R272. -/
def initWindup (g : Staging) (p : Params) : Int :=
  if 0 < g.ki.toInt then (g.lutN.toNat * 2 ^ p.fracBits : Nat) / g.ki.toInt else 0

/-- The configuration checks of 46_init_and_host.md R271, by their numbers. -/
def checkFails (g : Staging) (p : Params) : Nat → Prop
  | 1 => g.loopRate.toNat = 0
  | 2 => g.lutN.toNat = 0 ∨ g.lutN.toNat > p.lutDepth
  | 3 => g.nomIdx.toNat ≥ g.lutN.toNat
  | 4 => g.ki.toInt < 0
  | 5 => initEm g ≥ 2 ^ 32 ∨ initEr g ≥ 2 ^ 32
  | 6 => initEr g ≠ 0 ∧ initEm g * (initEr g + 32767) * (2 ^ p.preDivBits / initEr g + 1) ≥ 2 ^ 64
  | 7 => g.ppmRange.toNat * 2 * initEm g / 1000000 ≥ 2 ^ 32
  | 8 => g.ki.toInt > 0 ∧ (g.lutN.toNat * 2 ^ p.fracBits : Nat) / g.ki.toInt > 2 ^ 31 - 1
  | 9 => (g.sdmLimits.extractLsb' 0 16).toInt > (g.sdmLimits.extractLsb' 16 16).toInt
  | _ => False

/-- The register map of 20_memory.md R84 with the read values of 46_init_and_host.md R285, as (offset, word). -/
def readMap (s : State) : List (Nat × Word) :=
  [(0x000, s.staging.ctrl), (0x004, s.staging.kp), (0x008, s.staging.ki), (0x00C, s.staging.loopRate),
   (0x010, s.staging.pllRatio), (0x014, s.staging.refInc), (0x018, s.staging.lutN), (0x01C, s.staging.nomIdx),
   (0x020, s.staging.ppmRange), (0x024, s.staging.sdmLimits),
   (0x040, s.host.arg0), (0x044, s.host.arg1), (0x048, 0#32), (0x04C, s.host.result0), (0x050, s.host.result1),
   (0x054, BitVec.ofNat 32 (s.lock.status.toNat + 4 * s.seq.firstLoop.toNat + 8 * s.pfd.resync.toNat +
      16 * s.status.initialised.toNat + 32 * s.status.fatal.toNat + 64 * s.mailbox.full.toNat +
      2 ^ 8 * s.status.errCode.toNat + 2 ^ 16 * s.status.cfgCause.toNat))] ++
  [(0x080, s.active.ctrl), (0x084, s.active.kp), (0x088, s.active.ki), (0x08C, s.active.loopRate),
   (0x090, s.active.lutN), (0x094, s.active.nomIdx), (0x098, s.active.sdmLimits),
   (0x0A0, s.derived.mclkExpInc), (0x0A4, s.derived.refExpInc),
   (0x0A8, BitVec.ofNat 32 (s.snum % 2 ^ 32)), (0x0AC, BitVec.ofNat 32 (s.snum / 2 ^ 32)),
   (0x0B0, s.derived.maxDiff), (0x0B4, s.derived.windup)] ++
  [(0x0C0, s.seq.loopCounter), (0x0C4, BitVec.ofNat 32 s.pfd.mclkLast.toNat),
   (0x0C8, BitVec.ofNat 32 s.pfd.refLast.toNat), (0x0CC, BitVec.ofInt 32 s.pfd.lastDiff.toInt),
   (0x0D0, s.pi.accum), (0x0D4, s.pi.lastControl), (0x0D8, s.lock.countdown),
   (0x0DC, BitVec.ofNat 32 s.lock.currentValue.toNat), (0x0E0, s.mailbox.slot), (0x0E4, s.sdm.hold),
   (0x0E8, s.sdm.e1), (0x0EC, s.sdm.e2), (0x0F0, BitVec.ofNat 32 s.sdm.out.toNat)]

/-- An address that is misaligned (20_memory.md R83) or unmapped (R85). -/
def Rejected (s : State) (a : Addr) : Prop :=
  a.toNat % 4 ≠ 0 ∨ (a.toNat < 0x40000 ∧ a.toNat ∉ (readMap s).map Prod.fst) ∨ 0x40000 + 4 * s.params.lutDepth ≤ a.toNat

/-- The read-only offsets of 20_memory.md R84. -/
def readOnlyOffsets : List Nat :=
  [0x04C, 0x050, 0x080, 0x084, 0x088, 0x08C, 0x090, 0x094, 0x098, 0x0A0, 0x0A4, 0x0A8, 0x0AC, 0x0B0, 0x0B4, 0x0C0,
   0x0C4, 0x0C8, 0x0CC, 0x0D0, 0x0D4, 0x0D8, 0x0DC, 0x0E0, 0x0E4, 0x0E8, 0x0EC, 0x0F0]

/-- Every byte of the LUT RAM reads as before. -/
def SameMemory (s t : State) : Prop := ∀ a, t.readByte a = s.readByte a

/-- The block performs commands and events: FATAL = 0 and INITIALISED = 1 (60_exceptions.md R321). -/
def Running (s : State) : Prop := s.status.fatal = false ∧ s.status.initialised = true

/-- The next edge is a control update (45_sequencer.md R250). -/
def UpdateDue (s : State) : Prop := s.seq.loopCounter.toNat + 1 = s.active.loopRate.toNat

/-- The index NOM - c lies in [0, N-1] (43_lut_lock.md R204). -/
def InRange (s : State) (c : Int) : Prop :=
  0 ≤ (s.active.nomIdx.toNat : Int) - c ∧ (s.active.nomIdx.toNat : Int) - c < s.active.lutN.toNat

/-- A stream of EDGE events performed one after another. -/
def runEdges : List (Half × Half) → State → Host.Outcome State Fault Refusal
  | [], s => .next s
  | (m, r) :: es, s =>
    match exec (.edge m r) s with
    | .next t => runEdges es t
    | o => o

/-- A sequence of PI errors performed one after another. -/
def runErrors : List Int → State → State
  | [], s => s
  | e :: es, s => runErrors es (piFunction e s).2

/-- A sequence of LUT selections performed one after another. -/
def runSelections : List Int → State → State
  | [], s => s
  | c :: cs, s => runSelections cs (lutFunction c s).2

/-- K TICK events: the sum of the levels output, and the state after. -/
def runTicks : Nat → State → Int × State
  | 0, s => (0, s)
  | k + 1, s =>
    match exec .tick s with
    | .next t => (t.sdm.out.toInt + (runTicks k t).1, (runTicks k t).2)
    | _ => (0, s)

/-- The conditions of 44_sdm.md R233 and R234 on a window of K ticks: the input constant, no tick clamps, and a stored
error in its unclamped range at the start. -/
def Unclamped (k : Nat) (s : State) : Prop :=
  ∀ j, j < k → (runTicks j s).2.outMin ≤ nearestLevel (runTicks j s).2 ∧
    nearestLevel (runTicks j s).2 ≤ (runTicks j s).2.outMax

/-- A stored error in [-2^(Q-1), 2^(Q-1)), or 0 if Q = 0. -/
def ErrorInStep (s : State) (e : Word) : Prop :=
  -(2 ^ s.sdmQbits : Nat) ≤ 2 * e.toInt ∧ 2 * e.toInt < (2 ^ s.sdmQbits : Nat) ∧ (s.sdmQbits = 0 → e.toInt = 0)

/-- The operations that are neither INIT, RST nor a bus transaction. -/
def datapathOnly : Instr → Bool
  | .nop | .sample | .pfd | .pi | .lut | .publish | .sdmTick | .edge _ _ | .tick => true
  | .init | .read _ | .write _ _ | .rst => false

end Sys2Proof.Spec

open Sys2Proof Sys2Proof.Machine Sys2Proof.Spec

/-! ### Encoding, spec/30_encoding.md -/

/-- Decode of encode is the operation, for every well-formed operation with every operand. -/
def Obligations.DecodeOfEncodeIsTheOperation : Prop :=
  ∀ i : Instr, WellFormed i → decode (encode i) = .ok i

/-- R115: the legal command words are exactly 0..7 and every other word is illegal. -/
def Obligations.CommandDecoderIsTotalOnWords : Prop :=
  ∀ w : Word,
    (w.toNat < 8 ∧ ∃ c, decodeCommand w = .ok c ∧ encodeCommand c = w) ∨
    (8 ≤ w.toNat ∧ decodeCommand w = .error .illegalCommand)

/-- R117 and R112, the other direction of the round trip: what a bus header and data word can decode to. That a WRITE of a
command's word to CMD decodes to the command is the model's choice (log entry 8). -/
def Obligations.BusDecoderReadsEveryField : Prop :=
  ∀ h d : Word,
    ((h.toNat / 2 ^ 20) % 2 ^ 11 ≠ 0 → decode (.bus h d) = .error .reservedHeader) ∧
    ((h.toNat / 2 ^ 20) % 2 ^ 11 = 0 → h.toNat < 2 ^ 31 →
      decode (.bus h d) = .ok (.read (BitVec.ofNat 20 h.toNat))) ∧
    ((h.toNat / 2 ^ 20) % 2 ^ 11 = 0 → 2 ^ 31 ≤ h.toNat →
      (h.toNat % 2 ^ 20 ≠ 0x48 ∨ 8 ≤ d.toNat) → decode (.bus h d) = .ok (.write (BitVec.ofNat 20 h.toNat) d)) ∧
    (h = 0x80000048#32 → d.toNat < 8 → ∃ c : Command, encodeCommand c = d ∧ decode (.bus h d) = .ok c.instr)

/-- Words of spec/95_test_vectors.md decode to what they stand for. -/
def Obligations.SampleWordsDecode : Prop :=
  decode (.bus 0x80000048#32 0x00000003#32) = .ok .pfd ∧
  decode (.bus 0x80000048#32 0x00000108#32) = .ok (.write 0x048#20 0x108#32) ∧
  decode (.bus 0x00000054#32 0#32) = .ok (.read 0x054#20) ∧
  decode (.bus 0x8004001C#32 0x00001070#32) = .ok (.write 0x4001C#20 0x1070#32) ∧
  decode (.bus 0x40000054#32 0#32) = .error .reservedHeader ∧
  decode (.event 0b01#2 0xFE000032#32) = .ok (.edge 65024#16 50#16) ∧
  decode (.event 0b10#2 0#32) = .ok .tick ∧
  decode .reset = .ok .rst

/-! ### Steps and ordering, spec/20_memory.md -/

/-- R94, R95: a step performs the operation that the stimulus taken from the inputs decodes to. The inputs are the model's
(log entry 5). -/
def Obligations.StepRunsTheDecodedOperation : Prop :=
  ∀ (s t : State) (st : Stimulus) (i : Instr),
    s.takeStimulus = some (st, t) → decode st = .ok i → step s = exec i t

/-- A step on a well-formed operation's raw form, arriving alone, is that operation with the arrival taken off. The inputs
are the model's (log entry 5). -/
def Obligations.StepOnAnEncodedArrivalIsExec : Prop :=
  ∀ (i : Instr) (s : State), WellFormed i →
    step { s with inputs := arrivalOf (encode i) :: s.inputs } = exec i s

/-- R96, R118: an EDGE and a TICK of one instant are performed one after another, in an order left open. That the open
choice is a free value counted by orderCount is the model's choice (log entry 6). -/
def Obligations.SimultaneousEdgeAndTickGoEitherWay : Prop :=
  ∀ (s : State) (payload : Word) (rest : List Arrival),
    s.inputs = { event := 0b11#2, payload := payload, bus := none, reset := false } :: rest →
    step s = exec (.edge (payload.extractLsb' 16 16) (payload.extractLsb' 0 16))
        { s with inputs := { event := 0b10#2, payload := payload, bus := none, reset := false } :: rest
                 orderCount := s.orderCount + 1 } ∨
    step s = exec .tick
        { s with inputs := { event := 0b01#2, payload := payload, bus := none, reset := false } :: rest
                 orderCount := s.orderCount + 1 }

/-- R96: a hardware reset that coincides with other stimuli is performed last (arrivals: log entry 5). -/
def Obligations.ResetIsPerformedLast : Prop :=
  ∀ (s t : State) (a : Arrival) (rest : List Arrival),
    s.inputs = a :: rest → s.takeStimulus = some (.reset, t) → a.event = 0b00#2 ∧ a.bus = none ∧ a.reset = true

/-- R98: the block can never deadlock. Every step from inputs that hold no malformed header takes a next state, whose
inputs again hold none (log entries 5 and 12). -/
def Obligations.LegalInputsNeverStop : Prop :=
  ∀ s : State, s.inputsLegal = true → ∃ t, step s = .next t ∧ t.inputsLegal = true

/-! ### The invariant, spec/10_state.md R72 -/

/-- Every step keeps the invariant. -/
def Obligations.StepKeepsTheInvariant : Prop :=
  ∀ s t : State, Inv s → step s = .next t → Inv t

/-- The invariant holds after hardware reset (with the default parameters, log entry 2). -/
def Obligations.ResetMeetsTheInvariant : Prop := Inv State.reset

/-! ### Arithmetic helpers, spec/40_arith_helpers.md -/

/-- R140. -/
def Obligations.AfterIsTheFollowingHalfOfTheRing : Prop :=
  ∀ a b : Half,
    (after a b = true ↔ wrap 16 ((b.toNat : Int) - a.toNat) < 0) ∧
    (after a b = true ↔
      (1 ≤ unsigned 16 ((a.toNat : Int) - b.toNat) ∧ unsigned 16 ((a.toNat : Int) - b.toNat) ≤ 32767) ∨
      unsigned 16 ((a.toNat : Int) - b.toNat) = 32768) ∧
    (after a b = false ↔
      unsigned 16 ((a.toNat : Int) - b.toNat) = 0 ∨
      (32769 ≤ unsigned 16 ((a.toNat : Int) - b.toNat) ∧ unsigned 16 ((a.toNat : Int) - b.toNat) ≤ 65535))

/-- R141. -/
def Obligations.Diff16IsTheRingDifference : Prop :=
  ∀ a b : Half,
    diff16 a b = (if after a b then wrap 16 ((a.toNat : Int) - b.toNat) else -wrap 16 ((b.toNat : Int) - a.toNat)) ∧
    diff16 a b = wrap 16 ((a.toNat : Int) - b.toNat) ∧
    -32768 ≤ diff16 a b ∧ diff16 a b ≤ 32767 ∧
    (diff16 a b = -32768 ↔ unsigned 16 ((a.toNat : Int) - b.toNat) = 0x8000)

/-- R142. -/
def Obligations.Diff16RotationAndAntisymmetry : Prop :=
  ∀ a b k : Half,
    diff16 (a + k) (b + k) = diff16 a b ∧
    (a - b ≠ 0x8000#16 → diff16 a b = -diff16 b a) ∧
    (a - b = 0x8000#16 → diff16 a b = -32768 ∧ diff16 b a = -32768) ∧
    diff16 a a = 0

/-- R144. -/
def Obligations.SaturatingAccumulationClampsTheExactSum : Prop :=
  ∀ acc e limit : Int, 0 ≤ limit →
    (acc + e < -limit → satAcc acc e limit = -limit) ∧
    (-limit ≤ acc + e → acc + e ≤ limit → satAcc acc e limit = acc + e) ∧
    (limit < acc + e → satAcc acc e limit = limit) ∧
    -limit ≤ satAcc acc e limit ∧ satAcc acc e limit ≤ limit

/-- R149: the triple product modulo 2^64, and any order of 64-bit wrapping multiplies gives it. -/
def Obligations.TripleProductIsModular : Prop :=
  ∀ x y z : Int,
    ((mul64u x y z).toNat : Int) = unsigned 64 (x * y * z) ∧
    mul64u x y z = BitVec.ofInt 64 x * BitVec.ofInt 64 y * BitVec.ofInt 64 z ∧
    mul64u x y z = BitVec.ofInt 64 x * (BitVec.ofInt 64 y * BitVec.ofInt 64 z)

/-- R150. -/
def Obligations.QuantizerTakesTheNearestLevel : Prop :=
  ∀ (v : Int) (q : Nat),
    qround v 0 = v ∧
    (1 ≤ q →
      qround v q = (v + (2 ^ (q - 1) : Nat)) / (2 ^ q : Nat) ∧
      -(2 ^ (q - 1) : Nat) ≤ v - qround v q * (2 ^ q : Nat) ∧ v - qround v q * (2 ^ q : Nat) < (2 ^ (q - 1) : Nat))

/-! ### The phase-frequency detector, spec/41_pfd.md -/

/-- R167 and R160: the PFD command's next state, all of it. -/
def Obligations.PfdCommandComputesTheScaledPhaseError : Prop :=
  ∀ (s : State) (m r : Half), Running s →
    m = BitVec.ofNat 16 s.host.arg0.toNat → r = BitVec.ofNat 16 s.host.arg1.toNat →
    exec .pfd s = .next { s with
      pfd := pfdAfter s m r
      host := { s.host with
        result0 := BitVec.ofInt 32 (phaseError s m r)
        result1 := if desync s m r then 1#32 else 0#32 } } ∧
    -32768 ≤ phaseError s m r ∧ phaseError s m r ≤ 32767

/-- R169: at exactly the nominal period the scaled increment is E_m, so the compensated expectation is the uncompensated
one; without the rounding bias the increment would be one less wherever E_r does not divide 2^PRE_DIV_BITS. -/
def Obligations.RoundingBiasMakesTheNominalCaseExact : Prop :=
  ∀ s : State, Inv s → s.status.initialised = true → s.er ≠ 0 → s.em * s.er < 2 ^ s.params.preDivBits →
    s.scaledInc 0 = s.derived.mclkExpInc ∧
    s.mclkExp (BitVec.ofNat 16 (s.pfd.refLast.toNat + s.er)) = BitVec.ofNat 16 (s.pfd.mclkLast.toNat + s.em) ∧
    (1 ≤ s.em → ¬ s.er ∣ 2 ^ s.params.preDivBits →
      s.em * s.er * (2 ^ s.params.preDivBits / s.er) / 2 ^ s.params.preDivBits = s.em - 1)

/-- R170: after a successful INIT with compensation the PFD's product never wraps for a non-negative scale factor. -/
def Obligations.AcceptedConfigurationNeverWrapsTheProduct : Prop :=
  ∀ s t : State, s.params.Legal → s.status.fatal = false → exec .init s = .next t → t.status.fatal = false →
    t.er ≠ 0 →
    t.em * (t.er + 32767) * t.snum < 2 ^ 64 ∧
    ∀ deviation : Int, -32768 ≤ deviation → deviation ≤ 32767 → 0 ≤ t.er + deviation →
      ((mul64u t.em (t.er + deviation) t.snum).toNat : Int) = t.em * (t.er + deviation) * t.snum

/-! ### The PI controller, spec/42_pi.md -/

/-- R184 and R180: the PI command's next state, all of it. -/
def Obligations.PiCommandIntegratesAndShifts : Prop :=
  ∀ (s : State) (e : Int), Running s → e = wrap 16 s.host.arg0.toNat →
    exec .pi s = .next { s with
      pi := piAfter s e
      host := { s.host with result0 := BitVec.ofInt 32 (controlSignal s e) } } ∧
    (s.wlim ≤ 2147483647 →
      (piAfter s e).accum.toInt = accumulate s e ∧ -(s.wlim : Int) ≤ accumulate s e ∧ accumulate s e ≤ s.wlim)

/-- R186: whatever the errors, the accumulator is within the windup limit after each update. -/
def Obligations.AccumulatorStaysWithinTheWindupLimit : Prop :=
  ∀ (s : State) (es : List Int) (e : Int), s.wlim ≤ 2147483647 →
    |(runErrors (es ++ [e]) s).pi.accum.toInt| ≤ s.wlim

/-- R183: with FRAC_BITS = 16 and a windup limit computed by INIT the narrowing never changes the value. -/
def Obligations.NarrowingNeverChangesTheControlSignal : Prop :=
  ∀ (s : State) (e : Int), Inv s → s.status.initialised = true → s.params.fracBits = 16 → -32768 ≤ e → e ≤ 32767 →
    |(s.active.kp.toInt * e + s.active.ki.toInt * accumulate s e) / 65536| ≤ 2 ^ 30 + s.active.lutN.toNat ∧
    (piFunction e s).1 = (s.active.kp.toInt * e + s.active.ki.toInt * accumulate s e) / 65536 ∧
    (piFunction e s).2.pi.lastControl.toInt = (s.active.kp.toInt * e + s.active.ki.toInt * accumulate s e) / 65536

/-! ### The LUT selector, spec/43_lut_lock.md -/

/-- R206 and R201: the LUT command's next state, all of it. The premise 1 <= N is the invariant's (Configured.lutLength,
StepKeepsTheInvariant). -/
def Obligations.LutCommandSelectsAndTracksLock : Prop :=
  ∀ (s : State) (c : Int), Running s → 1 ≤ s.active.lutN.toNat → c = wrap 32 s.host.arg0.toNat →
    exec .lut s = .next { s with
      lock := lockAfter s c
      host := { s.host with
        result0 := BitVec.ofNat 32 (s.lutRead (selected s c)).toNat
        result1 := BitVec.ofNat 32 (lockAfter s c).status.toNat } }

/-- R209: the selected index never increases with the control signal and always names a table entry. -/
def Obligations.SelectionIsMonotoneAndInTheTable : Prop :=
  ∀ (s : State) (c : Int), 1 ≤ s.active.lutN.toNat →
    s.lutSelect (c + 1) ≤ s.lutSelect c ∧ s.lutSelect c ≤ s.active.lutN.toNat - 1

/-- R208: after j consecutive in-range selections since the countdown was set to LOCK_COUNT, with an unlocked status. -/
def Obligations.LockNeedsAStreakOfInRangeSelections : Prop :=
  ∀ (s : State) (cs : List Int), s.lock.countdown = s.params.lockCount → s.lock.status ≠ 0b00#2 →
    (∀ c ∈ cs, InRange s c) →
    (runSelections cs s).lock.countdown.toNat = s.params.lockCount.toNat - cs.length ∧
    ((runSelections cs s).lock.status = 0b00#2 ↔ s.params.lockCount.toNat + 1 ≤ cs.length) ∧
    (cs.length ≤ s.params.lockCount.toNat → (runSelections cs s).lock.status = s.lock.status)

/-- R210: whatever the operation, Locked is left only with the countdown set to LOCK_COUNT again. -/
def Obligations.LeavingLockedRestartsTheCountdown : Prop :=
  ∀ (i : Instr) (s t : State), exec i s = .next t → s.lock.status = 0b00#2 → t.lock.status ≠ 0b00#2 →
    t.lock.countdown = s.params.lockCount

/-! ### The modulator and the mailbox, spec/44_sdm.md -/

/-- R230 and R226. -/
def Obligations.PublishReplacesTheSlot : Prop :=
  ∀ s : State, Running s →
    exec .publish s = .next { s with mailbox := { slot := s.host.arg0, full := true } }

/-- R231 and R229: the SDM_TICK command's next state, all of it. -/
def Obligations.SdmTickCommandModulates : Prop :=
  ∀ s : State, Running s → s.mode = true →
    exec .sdmTick s = .next { sdmAfter s with
      host := { s.host with result0 := BitVec.ofInt 32 (unsigned 16 (level s)) } }

/-- R232 and R229: the TICK event's next state, all of it, performed in SDM mode and ignored elsewhere. -/
def Obligations.TickEventModulatesOrIsIgnored : Prop :=
  ∀ s : State,
    (Running s → s.mode = true → exec .tick s = .next (sdmAfter s)) ∧
    (¬ Running s ∨ s.mode = false → exec .tick s = .next s)

/-- R233: first-order boundedness over any window of K ticks. -/
def Obligations.FirstOrderModulatorIsBounded : Prop :=
  (∀ (s : State) (k : Nat), Running s → s.mode = true → s.sdmOrder = false → s.mailbox.full = false →
    ErrorInStep s s.sdm.e1 → Unclamped k s →
    (runTicks k s).1 * (2 ^ s.sdmQbits : Nat) - k * s.sdm.hold.toInt =
      s.sdm.e1.toInt - (runTicks k s).2.sdm.e1.toInt ∧
    |(runTicks k s).1 * (2 ^ s.sdmQbits : Nat) - k * s.sdm.hold.toInt| < (2 ^ s.sdmQbits : Nat) ∧
    (s.sdmQbits = 0 → (runTicks k s).1 = k * s.sdm.hold.toInt)) ∧
  ∀ s t : State, s.status.fatal = false → exec .init s = .next t → t.status.fatal = false → t.sdm.e1 = 0#32

/-- R234: the second-order bound over any window of K ticks. -/
def Obligations.SecondOrderModulatorIsBounded : Prop :=
  ∀ (s : State) (k : Nat), Running s → s.mode = true → s.sdmOrder = true → s.mailbox.full = false →
    ErrorInStep s s.sdm.e1 → ErrorInStep s s.sdm.e2 → Unclamped k s →
    (runTicks k s).1 * (2 ^ s.sdmQbits : Nat) - k * s.sdm.hold.toInt =
      (s.sdm.e1.toInt - s.sdm.e2.toInt) - ((runTicks k s).2.sdm.e1.toInt - (runTicks k s).2.sdm.e2.toInt) ∧
    |(runTicks k s).1 * (2 ^ s.sdmQbits : Nat) - k * s.sdm.hold.toInt| ≤ 2 * ((2 ^ s.sdmQbits : Nat) - 1)

/-- R220: what a tick does to the modulator and the mailbox, and the level it outputs, depend on nothing but the mailbox,
the modulator, the active fields and whether the block runs. -/
def Obligations.ModulatorReadsOnlyItsOwnState : Prop :=
  ∀ s s' t t' : State, s'.mailbox = s.mailbox → s'.sdm = s.sdm → s'.active.ctrl = s.active.ctrl →
    s'.active.sdmLimits = s.active.sdmLimits → s'.status = s.status →
    exec .tick s = .next t → exec .tick s' = .next t' →
    t'.mailbox = t.mailbox ∧ t'.sdm = t.sdm ∧
    ∃ os, t.outputs = s.outputs ++ os ∧ t'.outputs = s'.outputs ++ os

/-- R25, R319: the control agent and the SDM agent share only the mailbox. -/
def Obligations.AgentsShareOnlyTheMailbox : Prop :=
  (∀ s t : State, exec .tick s = .next t →
    t = { s with mailbox := t.mailbox, sdm := t.sdm, outputs := t.outputs } ∧ t.mailbox.slot = s.mailbox.slot) ∧
  (∀ (s t : State) (m r : Half), exec (.edge m r) s = .next t →
    t = { s with seq := t.seq, pfd := t.pfd, pi := t.pi, lock := t.lock, mailbox := t.mailbox, outputs := t.outputs } ∧
    (t.mailbox ≠ s.mailbox → s.mode = true ∧ s.seq.firstLoop = false ∧ t.seq.firstLoop = false))

/-! ### The sequencer, spec/45_sequencer.md -/

/-- R250: an edge before the control update only counts. -/
def Obligations.EdgeBeforeTheUpdateOnlyCounts : Prop :=
  ∀ (s : State) (m r : Half), Running s → s.seq.loopCounter.toNat + 1 < s.active.loopRate.toNat →
    exec (.edge m r) s = .next { s with
      seq := { s.seq with loopCounter := BitVec.ofNat 32 (s.seq.loopCounter.toNat + 1) } }

/-- R250: between two control updates only LOOP_COUNTER changes, whatever the samples. -/
def Obligations.DecimationDiscardsTheSamplesBetween : Prop :=
  ∀ (s : State) (es : List (Half × Half)), Running s → s.seq.loopCounter.toNat + es.length < s.active.loopRate.toNat →
    runEdges es s = .next { s with
      seq := { s.seq with loopCounter := BitVec.ofNat 32 (s.seq.loopCounter.toNat + es.length) } }

/-- R252: the first-loop update's next state, all of it, in both modes. -/
def Obligations.FirstLoopUpdateSeedsTheLoop : Prop :=
  ∀ (s : State) (m r : Half), Running s → UpdateDue s → s.seq.firstLoop = true →
    exec (.edge m r) s = .next { s with
      seq := { loopCounter := 0#32, firstLoop := false }
      pfd := { s.pfd with
        mclkLast := m
        refLast := if s.params.seedRefOnFirst = true ∧ s.er ≠ 0 then r else s.pfd.refLast }
      pi := { s.pi with accum := 0#32 }
      lock := { s.lock with countdown := s.params.lockCount, status := 0b11#2 } }

/-- R255: the resync update's next state, all of it, in both modes. -/
def Obligations.ResyncUpdateReturnsToFirstLoop : Prop :=
  ∀ (s : State) (m r : Half), Running s → UpdateDue s → s.seq.firstLoop = false → desync s m r = true →
    exec (.edge m r) s = .next { s with
      seq := { loopCounter := 0#32, firstLoop := true }
      pfd := { pfdAfter s m r with mclkLast := m }
      outputs := s.outputs ++ [.resyncEvt] }

/-- R253 and R254 in LUT mode: the steady update's next state, all of it. The premise 1 <= N is the invariant's
(Configured.lutLength, StepKeepsTheInvariant). -/
def Obligations.SteadyUpdateInLutModeWritesTheSynthesizer : Prop :=
  ∀ (s : State) (m r : Half) (c : Int), Running s → UpdateDue s → s.seq.firstLoop = false → s.mode = false →
    desync s m r = false → 1 ≤ s.active.lutN.toNat → c = controlSignal s (phaseError s m r) →
    exec (.edge m r) s = .next { s with
      seq := { loopCounter := 0#32, firstLoop := false }
      pfd := { pfdAfter s m r with mclkLast := m }
      pi := piAfter s (phaseError s m r)
      lock := lockAfter s c
      outputs := s.outputs ++ [fracWriteOf (s.lutRead (selected s c))] }

/-- R253 and R254 in SDM mode: the steady update's next state, all of it. -/
def Obligations.SteadyUpdateInSdmModePublishes : Prop :=
  ∀ (s : State) (m r : Half), Running s → UpdateDue s → s.seq.firstLoop = false → s.mode = true →
    desync s m r = false →
    exec (.edge m r) s = .next { s with
      seq := { loopCounter := 0#32, firstLoop := false }
      pfd := { pfdAfter s m r with mclkLast := m }
      pi := piAfter s (phaseError s m r)
      mailbox := { slot := BitVec.ofInt 32 (controlSignal s (phaseError s m r)), full := true } }

/-- R256: SAMPLE is the step of an EDGE with the samples of ARG0 and ARG1, and it returns the kind of the step and the
lock code after it. The premise on LOOP_COUNTER is the invariant's (Inv.counterBelowRate, StepKeepsTheInvariant). -/
def Obligations.SampleIsAnEdgeWithResults : Prop :=
  ∀ s : State, Running s → s.seq.loopCounter.toNat < s.active.loopRate.toNat →
    ∃ t, exec (.edge (BitVec.ofNat 16 s.host.arg0.toNat) (BitVec.ofNat 16 s.host.arg1.toNat)) s = .next t ∧
      exec .sample s = .next { t with
        host := { s.host with
          result0 :=
            if s.seq.loopCounter.toNat + 1 ≠ s.active.loopRate.toNat then 0#32
            else if s.seq.firstLoop then 1#32
            else if desync s (BitVec.ofNat 16 s.host.arg0.toNat) (BitVec.ofNat 16 s.host.arg1.toNat) then 3#32
            else 2#32
          result1 := BitVec.ofNat 32 t.lock.status.toNat } }

/-! ### INIT, NOP and RST, spec/46_init_and_host.md and spec/70_reset_and_hazards.md -/

/-- R272: INIT with every check passed loads the configuration and resets the loop, and changes nothing else. -/
def Obligations.InitLoadsAnAcceptedConfiguration : Prop :=
  ∀ s : State, s.params.Legal → s.status.fatal = false → (∀ k, ¬ checkFails s.staging s.params k) →
    ∃ t, exec .init s = .next t ∧
      t.em = initEm s.staging ∧ t.er = initEr s.staging ∧ t.snum = initScale s.staging s.params ∧
      t.md = initMaxDiff s.staging ∧ (t.wlim : Int) = initWindup s.staging s.params ∧
      t = { s with
        active :=
          { ctrl := s.staging.ctrl &&& 0x00001F03#32, kp := s.staging.kp, ki := s.staging.ki,
            loopRate := s.staging.loopRate, lutN := s.staging.lutN, nomIdx := s.staging.nomIdx,
            sdmLimits := s.staging.sdmLimits }
        derived := t.derived
        seq := { loopCounter := 0#32, firstLoop := true }
        pfd := { mclkLast := 0#16, refLast := 0#16, lastDiff := 0#16, resync := false }
        pi := { accum := 0#32, lastControl := 0#32 }
        lock := { countdown := s.params.lockCount, status := 0b11#2,
                  currentValue := s.lutRead s.staging.nomIdx.toNat }
        mailbox := { slot := 0#32, full := false }
        sdm := { hold := 0#32, e1 := 0#32, e2 := 0#32, out := 0#16 }
        host := { s.host with result0 := 0#32, result1 := 0#32 }
        status := { s.status with initialised := true } }

/-- R270, R271, R305: INIT with a failing check enters the fatal state with the number of the first one that fails. -/
def Obligations.InitReportsTheFirstFailingCheck : Prop :=
  ∀ (s : State) (k : Nat), s.status.fatal = false → checkFails s.staging s.params k →
    (∀ j, j < k → ¬ checkFails s.staging s.params j) →
    exec .init s = .next { s with
      status := { initialised := false, fatal := true, errCode := 0x05#8, cfgCause := BitVec.ofNat 4 k } }

/-- R280: NOP has no effect in any state. -/
def Obligations.NopChangesNothing : Prop := ∀ s : State, exec .nop s = .next s

/-- R340 and R73: hardware reset sets every element to its reset value and emits nothing. That it leaves the model's own
records alone is the model's choice (log entry 7). -/
def Obligations.HardwareResetSetsEveryElement : Prop :=
  ∀ s : State, ∃ t, exec .rst s = .next t ∧
    t.staging = { ctrl := 0#32, kp := 0#32, ki := 0#32, loopRate := 0#32, pllRatio := 0#32, refInc := 0#32,
                  lutN := 0#32, nomIdx := 0#32, ppmRange := 0#32, sdmLimits := 0#32 } ∧
    t.host = { arg0 := 0#32, arg1 := 0#32, result0 := 0#32, result1 := 0#32 } ∧
    t.active = { ctrl := 0#32, kp := 0#32, ki := 0#32, loopRate := 0#32, lutN := 0#32, nomIdx := 0#32,
                 sdmLimits := 0#32 } ∧
    t.derived = { mclkExpInc := 0#32, refExpInc := 0#32, scaleNum := 0#64, maxDiff := 0#32, windup := 0#32 } ∧
    t.seq = { loopCounter := 0#32, firstLoop := true } ∧
    t.pfd = { mclkLast := 0#16, refLast := 0#16, lastDiff := 0#16, resync := false } ∧
    t.pi = { accum := 0#32, lastControl := 0#32 } ∧
    t.lock = { countdown := s.params.lockCount, status := 0b11#2, currentValue := 0#16 } ∧
    t.mailbox = { slot := 0#32, full := false } ∧
    t.sdm = { hold := 0#32, e1 := 0#32, e2 := 0#32, out := 0#16 } ∧
    t.status = { initialised := false, fatal := false, errCode := 0#8, cfgCause := 0#4 } ∧
    t.statusWord = 0x00000007#32 ∧ t.outputs = s.outputs ∧ t.params = s.params ∧
    t.inputs = s.inputs ∧ t.orderCount = s.orderCount ∧ t.readLog = s.readLog

/-! ### Errors and the fatal state, spec/60_exceptions.md and spec/30_encoding.md R112 -/

/-- R302. -/
def Obligations.IllegalCommandWordOnlySetsTheError : Prop :=
  ∀ (s : State) (w : Word), (w.toNat / 2 ^ 8 ≠ 0 ∨ 0x08 ≤ w.toNat % 2 ^ 8) →
    (s.status.fatal = false →
      exec (.write 0x048#20 w) s = .next { s with status := { s.status with errCode := 0x01#8 } }) ∧
    (s.status.fatal = true → exec (.write 0x048#20 w) s = .next s)

/-- R303. -/
def Obligations.DatapathCommandsNeedInit : Prop :=
  ∀ (s : State), s.status.fatal = false → s.status.initialised = false →
    (∀ c : Command, c ≠ .nop → c ≠ .init →
      exec c.instr s = .next { s with status := { s.status with errCode := 0x02#8 } }) ∧
    exec .nop s = .next s ∧
    (∃ t, exec .init s = .next t ∧ (t.status.errCode = s.status.errCode ∨ t.status.errCode = 0x05#8)) ∧
    (∀ m r, exec (.edge m r) s = .next s) ∧ exec .tick s = .next s

/-- R304, with the other commands legal in both modes: they set no error but INIT's CONFIG. -/
def Obligations.SdmTickNeedsSdmMode : Prop :=
  ∀ s : State, Running s →
    (s.mode = false → exec .sdmTick s = .next { s with status := { s.status with errCode := 0x03#8 } }) ∧
    ∀ c : Command, c ≠ .sdmTick →
      ∃ t, exec c.instr s = .next t ∧
        (t.status.errCode = s.status.errCode ∨ (c = .init ∧ t.status.errCode = 0x05#8))

/-- R305, R321: in the fatal state commands and events do nothing; nothing but RST leaves it. -/
def Obligations.OnlyResetLeavesTheFatalState : Prop :=
  ∀ (i : Instr) (s : State), s.status.fatal = true → i ≠ .rst →
    (datapathOnly i = true ∨ i = .init → exec i s = .next s) ∧
    ∃ t, exec i s = .next t ∧
      t.status.fatal = true ∧ t.status.cfgCause = s.status.cfgCause ∧ t.active = s.active ∧ t.derived = s.derived ∧
      t.seq = s.seq ∧ t.pfd = s.pfd ∧ t.pi = s.pi ∧ t.lock = s.lock ∧ t.mailbox = s.mailbox ∧ t.sdm = s.sdm ∧
      t.outputs = s.outputs

/-- R112, R113: a WRITE of a command's word to CMD is the command, in every state. -/
def Obligations.CommandIsAWriteToCmd : Prop :=
  ∀ (c : Command) (s : State), exec (.write 0x048#20 (encodeCommand c)) s = exec c.instr s

/-! ### The bus, spec/20_memory.md and spec/46_init_and_host.md -/

/-- R84, R285: a READ of every mapped register returns its view, whatever the block's state, and changes no state. The word
returned is recorded in the model's readLog (log entry 7). -/
def Obligations.ReadReturnsTheRegisterView : Prop :=
  ∀ (s : State) (off : Nat) (w : Word), (off, w) ∈ readMap s →
    exec (.read (BitVec.ofNat 20 off)) s = .next { s with readLog := s.readLog ++ [w] }

/-- From R83 and R85: a misaligned or unmapped transaction accesses nothing and sets BUS. In the READ clause two points are
the model's choice: the word returned is recorded in readLog, which no rule states (DESIGN CHOICE, log entry 7), and BUS is
set although R88 says a READ never changes state (DEDUCED, log entry 13). -/
def Obligations.RejectedTransactionOnlySetsBus : Prop :=
  ∀ (s : State) (a : Addr) (d : Word), s.params.Legal → Rejected s a →
    exec (.read a) s = .next { s with
      status := { s.status with errCode := 0x04#8 }, readLog := s.readLog ++ [0#32] } ∧
    exec (.write a d) s = .next { s with status := { s.status with errCode := 0x04#8 } }

/-- From R86: a WRITE to the LUT window stores the low half of its word in one entry and touches nothing else, a READ returns
the zero-extended entry. Two points are the model's choice: the two bytes an entry stands in (DESIGN CHOICE, log entry 4),
and the record of the word returned in readLog, which no rule states (DESIGN CHOICE, log entry 7). -/
def Obligations.LutWindowStoresOneEntry : Prop :=
  ∀ (s : State) (i : Nat) (d : Word), s.params.Legal → i < s.params.lutDepth →
    ∃ t, exec (.write (BitVec.ofNat 20 (0x40000 + 4 * i)) d) s = .next t ∧
      t = { s with mem := t.mem } ∧
      (t.lutRead i).toNat = d.toNat % 2 ^ 16 ∧
      (∀ a, a ≠ lutAddr i → a ≠ lutAddr i + 1 → t.readByte a = s.readByte a) ∧
      (∀ j, j ≠ i → t.lutRead j = s.lutRead j) ∧
      exec (.read (BitVec.ofNat 20 (0x40000 + 4 * i))) s =
        .next { s with readLog := s.readLog ++ [BitVec.ofNat 32 (s.lutRead i).toNat] }

/-- R286, R88: a WRITE to each writable register writes it and nothing else; STATUS clears ERR_CODE; a read-only register
ignores it. -/
def Obligations.WriteReachesExactlyItsRegister : Prop :=
  ∀ (s : State) (d : Word),
    exec (.write 0x000#20 d) s = .next { s with staging := { s.staging with ctrl := d &&& 0x00001F03#32 } } ∧
    exec (.write 0x004#20 d) s = .next { s with staging := { s.staging with kp := d } } ∧
    exec (.write 0x008#20 d) s = .next { s with staging := { s.staging with ki := d } } ∧
    exec (.write 0x00C#20 d) s = .next { s with staging := { s.staging with loopRate := d } } ∧
    exec (.write 0x010#20 d) s = .next { s with staging := { s.staging with pllRatio := d } } ∧
    exec (.write 0x014#20 d) s = .next { s with staging := { s.staging with refInc := d } } ∧
    exec (.write 0x018#20 d) s = .next { s with staging := { s.staging with lutN := d } } ∧
    exec (.write 0x01C#20 d) s = .next { s with staging := { s.staging with nomIdx := d } } ∧
    exec (.write 0x020#20 d) s = .next { s with staging := { s.staging with ppmRange := d } } ∧
    exec (.write 0x024#20 d) s = .next { s with staging := { s.staging with sdmLimits := d } } ∧
    exec (.write 0x040#20 d) s = .next { s with host := { s.host with arg0 := d } } ∧
    exec (.write 0x044#20 d) s = .next { s with host := { s.host with arg1 := d } } ∧
    exec (.write 0x054#20 d) s = .next { s with status := { s.status with errCode := 0x00#8 } } ∧
    ∀ off ∈ readOnlyOffsets, exec (.write (BitVec.ofNat 20 off) d) s = .next s

/-! ### Rules about the whole machine -/

/-- R48, R99 (a): the active and derived registers are written only by INIT, however it is issued, and by RST. -/
def Obligations.OnlyInitAndResetWriteTheConfiguration : Prop :=
  ∀ (i : Instr) (s t : State), exec i s = .next t → (t.active ≠ s.active ∨ t.derived ≠ s.derived) →
    i = .init ∨ i = .write 0x048#20 0x00000001#32 ∨ i = .rst

/-- R31, R99 (a): a staging register is invisible to every operation but INIT and the bus. -/
def Obligations.StagingIsInvisibleToTheDatapath : Prop :=
  ∀ (i : Instr) (g : Staging) (s t : State), datapathOnly i = true → exec i s = .next t →
    exec i { s with staging := g } = .next { t with staging := g }

/-- From R86 and R69: nothing but a WRITE to the LUT window and RST changes what a byte of LUT RAM reads as. Which two bytes a
WRITE's entry stands in is the model's choice (DESIGN CHOICE, log entry 4). -/
def Obligations.OnlyTheLutWindowAndResetStore : Prop :=
  ∀ (i : Instr) (s t : State), exec i s = .next t → i ≠ .rst →
    ((∀ a d, i = .write a d → a.toNat < 0x40000) → SameMemory s t) ∧
    (∀ a d, i = .write a d → ∀ b, b ≠ a.toNat → b ≠ a.toNat + 1 → t.readByte b = s.readByte b)

/-- R70, R362: one operation emits at most one FracWrite and at most one RESYNC_EVT, never both, and every FracWrite word
has the enable bit and a zero-extended value. -/
def Obligations.AnOperationEmitsAtMostOneOutput : Prop :=
  ∀ (i : Instr) (s t : State), exec i s = .next t →
    t.outputs = s.outputs ∨ (∃ v : Half, t.outputs = s.outputs ++ [fracWriteOf v]) ∨
    t.outputs = s.outputs ++ [.resyncEvt]

/-- From R8-R12: the build-time parameters are fixed for one instance. That they stand in the state is the model's choice
(DESIGN CHOICE, log entry 1). -/
def Obligations.BuildParametersNeverChange : Prop :=
  ∀ s t : State, step s = .next t → t.params = s.params
end

