-- ==== Sys2Proof/Laws/PerInstr.lean ====
section
/-!
SUPPORT. LegalForm: the raw form of every operation is one that a stimulus of the hardware can have, a bus header with RSV
zero (spec/30_encoding.md R117), an event word with exactly one event (R118), or the RST input.
-/

namespace Sys2Proof.Laws

/-- Whether a raw form is one the hardware's ports present for a single operation. -/
def legalStimulus : Stimulus → Bool
  | .bus header _ => header.extractLsb' 20 11 == 0#11
  | .event word _ => word == 0b01#2 || word == 0b10#2
  | .reset => true

def LegalForm.Statement (i : Instr) : Prop := legalStimulus (encode i) = true

theorem busHeader_rsv (w : Bool) (a : Addr) : (busHeader w a).extractLsb' 20 11 = 0#11 := by
  ext j hj
  have h : (0x80000000#32).getLsbD (20 + j) = false := by interval_cases j <;> rfl
  cases w <;> simp [busHeader, h]

theorem LegalForm.nop : LegalForm.Statement .nop := rfl
theorem LegalForm.init : LegalForm.Statement .init := rfl
theorem LegalForm.sample : LegalForm.Statement .sample := rfl
theorem LegalForm.pfd : LegalForm.Statement .pfd := rfl
theorem LegalForm.pi : LegalForm.Statement .pi := rfl
theorem LegalForm.lut : LegalForm.Statement .lut := rfl
theorem LegalForm.publish : LegalForm.Statement .publish := rfl
theorem LegalForm.sdmTick : LegalForm.Statement .sdmTick := rfl
theorem LegalForm.read (addr : Addr) : LegalForm.Statement (.read addr) := by
  simp [LegalForm.Statement, encode, legalStimulus, busHeader_rsv]
theorem LegalForm.write (addr : Addr) (data : Word) : LegalForm.Statement (.write addr data) := by
  simp [LegalForm.Statement, encode, legalStimulus, busHeader_rsv]
theorem LegalForm.edge (m r : Half) : LegalForm.Statement (.edge m r) := rfl
theorem LegalForm.tick : LegalForm.Statement .tick := rfl
theorem LegalForm.rst : LegalForm.Statement .rst := rfl

end Sys2Proof.Laws
end

