-- ==== Sys2Proof/Laws/Encoding.lean ====
section
/-!
SUPPORT. The fields of a bus header and of an event payload read back as they were written (spec/30_encoding.md R117,
R118), and what the command decoder can answer.
-/

namespace Sys2Proof

@[simp] theorem busHeader_reserved (w : Bool) (a : Addr) : (busHeader w a).extractLsb' 20 11 = 0#11 :=
  Laws.busHeader_rsv w a

@[simp] theorem busHeader_write (w : Bool) (a : Addr) : (busHeader w a).getLsbD 31 = w := by
  cases w <;> simp [busHeader]

@[simp] theorem busHeader_addr (w : Bool) (a : Addr) : (busHeader w a).extractLsb' 0 20 = a := by
  ext j hj
  have h : (0x80000000#32)[j]'(by omega) = false := by
    rw [← BitVec.getLsbD_eq_getElem]
    interval_cases j <;> rfl
  cases w <;> simp [busHeader, h, hj, show j < 32 by omega]

@[simp] theorem edgePayload_mclk (m r : Half) : (edgePayload m r).extractLsb' 16 16 = m := by
  ext j hj
  simp [edgePayload, hj, show 16 + j < 32 by omega]

@[simp] theorem edgePayload_ref (m r : Half) : (edgePayload m r).extractLsb' 0 16 = r := by
  ext j hj
  simp [edgePayload, hj, show j < 32 by omega]

/-- The reserved bits of a command word are zero exactly when the word is below 256. -/
theorem commandWord_reserved (w : Word) : w.extractLsb' 8 24 = 0#24 ↔ w.toNat < 256 := by
  rw [← BitVec.toNat_inj]
  simp only [BitVec.extractLsb'_toNat, BitVec.toNat_ofNat, Nat.zero_mod, Nat.shiftRight_eq_div_pow]
  omega

end Sys2Proof
end

