-- ==== Sys2Proof/Laws/State.lean ====
section
/-!
SUPPORT. One lemma per field of State and named update, true by rfl, so that no later proof unfolds a record update.
-/

namespace Sys2Proof.Machine

@[simp] theorem State.emitFrac_params (s : State) (v : Half) : (s.emitFrac v).params = s.params := rfl
@[simp] theorem State.emitFrac_staging (s : State) (v : Half) : (s.emitFrac v).staging = s.staging := rfl
@[simp] theorem State.emitFrac_host (s : State) (v : Half) : (s.emitFrac v).host = s.host := rfl
@[simp] theorem State.emitFrac_active (s : State) (v : Half) : (s.emitFrac v).active = s.active := rfl
@[simp] theorem State.emitFrac_derived (s : State) (v : Half) : (s.emitFrac v).derived = s.derived := rfl
@[simp] theorem State.emitFrac_seq (s : State) (v : Half) : (s.emitFrac v).seq = s.seq := rfl
@[simp] theorem State.emitFrac_pfd (s : State) (v : Half) : (s.emitFrac v).pfd = s.pfd := rfl
@[simp] theorem State.emitFrac_pi (s : State) (v : Half) : (s.emitFrac v).pi = s.pi := rfl
@[simp] theorem State.emitFrac_lock (s : State) (v : Half) : (s.emitFrac v).lock = s.lock := rfl
@[simp] theorem State.emitFrac_mailbox (s : State) (v : Half) : (s.emitFrac v).mailbox = s.mailbox := rfl
@[simp] theorem State.emitFrac_sdm (s : State) (v : Half) : (s.emitFrac v).sdm = s.sdm := rfl
@[simp] theorem State.emitFrac_status (s : State) (v : Half) : (s.emitFrac v).status = s.status := rfl
@[simp] theorem State.emitFrac_mem (s : State) (v : Half) : (s.emitFrac v).mem = s.mem := rfl
@[simp] theorem State.emitFrac_lutEpoch (s : State) (v : Half) : (s.emitFrac v).lutEpoch = s.lutEpoch := rfl
@[simp] theorem State.emitFrac_inputs (s : State) (v : Half) : (s.emitFrac v).inputs = s.inputs := rfl
@[simp] theorem State.emitFrac_orderCount (s : State) (v : Half) : (s.emitFrac v).orderCount = s.orderCount := rfl
@[simp] theorem State.emitFrac_outputs (s : State) (v : Half) :
    (s.emitFrac v).outputs = s.outputs ++ [.fracWrite (fracWord v)] := rfl
@[simp] theorem State.emitFrac_readLog (s : State) (v : Half) : (s.emitFrac v).readLog = s.readLog := rfl

@[simp] theorem State.emitResync_params (s : State) : s.emitResync.params = s.params := rfl
@[simp] theorem State.emitResync_staging (s : State) : s.emitResync.staging = s.staging := rfl
@[simp] theorem State.emitResync_host (s : State) : s.emitResync.host = s.host := rfl
@[simp] theorem State.emitResync_active (s : State) : s.emitResync.active = s.active := rfl
@[simp] theorem State.emitResync_derived (s : State) : s.emitResync.derived = s.derived := rfl
@[simp] theorem State.emitResync_seq (s : State) : s.emitResync.seq = s.seq := rfl
@[simp] theorem State.emitResync_pfd (s : State) : s.emitResync.pfd = s.pfd := rfl
@[simp] theorem State.emitResync_pi (s : State) : s.emitResync.pi = s.pi := rfl
@[simp] theorem State.emitResync_lock (s : State) : s.emitResync.lock = s.lock := rfl
@[simp] theorem State.emitResync_mailbox (s : State) : s.emitResync.mailbox = s.mailbox := rfl
@[simp] theorem State.emitResync_sdm (s : State) : s.emitResync.sdm = s.sdm := rfl
@[simp] theorem State.emitResync_status (s : State) : s.emitResync.status = s.status := rfl
@[simp] theorem State.emitResync_mem (s : State) : s.emitResync.mem = s.mem := rfl
@[simp] theorem State.emitResync_lutEpoch (s : State) : s.emitResync.lutEpoch = s.lutEpoch := rfl
@[simp] theorem State.emitResync_inputs (s : State) : s.emitResync.inputs = s.inputs := rfl
@[simp] theorem State.emitResync_orderCount (s : State) : s.emitResync.orderCount = s.orderCount := rfl
@[simp] theorem State.emitResync_outputs (s : State) : s.emitResync.outputs = s.outputs ++ [.resyncEvt] := rfl
@[simp] theorem State.emitResync_readLog (s : State) : s.emitResync.readLog = s.readLog := rfl

@[simp] theorem State.send_params (s : State) (w : Word) : (s.send w).params = s.params := rfl
@[simp] theorem State.send_staging (s : State) (w : Word) : (s.send w).staging = s.staging := rfl
@[simp] theorem State.send_host (s : State) (w : Word) : (s.send w).host = s.host := rfl
@[simp] theorem State.send_active (s : State) (w : Word) : (s.send w).active = s.active := rfl
@[simp] theorem State.send_derived (s : State) (w : Word) : (s.send w).derived = s.derived := rfl
@[simp] theorem State.send_seq (s : State) (w : Word) : (s.send w).seq = s.seq := rfl
@[simp] theorem State.send_pfd (s : State) (w : Word) : (s.send w).pfd = s.pfd := rfl
@[simp] theorem State.send_pi (s : State) (w : Word) : (s.send w).pi = s.pi := rfl
@[simp] theorem State.send_lock (s : State) (w : Word) : (s.send w).lock = s.lock := rfl
@[simp] theorem State.send_mailbox (s : State) (w : Word) : (s.send w).mailbox = { slot := w, full := true } := rfl
@[simp] theorem State.send_sdm (s : State) (w : Word) : (s.send w).sdm = s.sdm := rfl
@[simp] theorem State.send_status (s : State) (w : Word) : (s.send w).status = s.status := rfl
@[simp] theorem State.send_mem (s : State) (w : Word) : (s.send w).mem = s.mem := rfl
@[simp] theorem State.send_lutEpoch (s : State) (w : Word) : (s.send w).lutEpoch = s.lutEpoch := rfl
@[simp] theorem State.send_inputs (s : State) (w : Word) : (s.send w).inputs = s.inputs := rfl
@[simp] theorem State.send_orderCount (s : State) (w : Word) : (s.send w).orderCount = s.orderCount := rfl
@[simp] theorem State.send_outputs (s : State) (w : Word) : (s.send w).outputs = s.outputs := rfl
@[simp] theorem State.send_readLog (s : State) (w : Word) : (s.send w).readLog = s.readLog := rfl

@[simp] theorem State.raiseError_params (s : State) (code : BitVec 8) : (s.raiseError code).params = s.params := rfl
@[simp] theorem State.raiseError_staging (s : State) (code : BitVec 8) :
    (s.raiseError code).staging = s.staging := rfl
@[simp] theorem State.raiseError_host (s : State) (code : BitVec 8) : (s.raiseError code).host = s.host := rfl
@[simp] theorem State.raiseError_active (s : State) (code : BitVec 8) : (s.raiseError code).active = s.active := rfl
@[simp] theorem State.raiseError_derived (s : State) (code : BitVec 8) :
    (s.raiseError code).derived = s.derived := rfl
@[simp] theorem State.raiseError_seq (s : State) (code : BitVec 8) : (s.raiseError code).seq = s.seq := rfl
@[simp] theorem State.raiseError_pfd (s : State) (code : BitVec 8) : (s.raiseError code).pfd = s.pfd := rfl
@[simp] theorem State.raiseError_pi (s : State) (code : BitVec 8) : (s.raiseError code).pi = s.pi := rfl
@[simp] theorem State.raiseError_lock (s : State) (code : BitVec 8) : (s.raiseError code).lock = s.lock := rfl
@[simp] theorem State.raiseError_mailbox (s : State) (code : BitVec 8) :
    (s.raiseError code).mailbox = s.mailbox := rfl
@[simp] theorem State.raiseError_sdm (s : State) (code : BitVec 8) : (s.raiseError code).sdm = s.sdm := rfl
@[simp] theorem State.raiseError_status (s : State) (code : BitVec 8) :
    (s.raiseError code).status = { s.status with errCode := code } := rfl
@[simp] theorem State.raiseError_mem (s : State) (code : BitVec 8) : (s.raiseError code).mem = s.mem := rfl
@[simp] theorem State.raiseError_lutEpoch (s : State) (code : BitVec 8) :
    (s.raiseError code).lutEpoch = s.lutEpoch := rfl
@[simp] theorem State.raiseError_inputs (s : State) (code : BitVec 8) : (s.raiseError code).inputs = s.inputs := rfl
@[simp] theorem State.raiseError_orderCount (s : State) (code : BitVec 8) :
    (s.raiseError code).orderCount = s.orderCount := rfl
@[simp] theorem State.raiseError_outputs (s : State) (code : BitVec 8) :
    (s.raiseError code).outputs = s.outputs := rfl
@[simp] theorem State.raiseError_readLog (s : State) (code : BitVec 8) :
    (s.raiseError code).readLog = s.readLog := rfl

@[simp] theorem State.raiseFatal_params (s : State) (cause : BitVec 4) : (s.raiseFatal cause).params = s.params := rfl
@[simp] theorem State.raiseFatal_staging (s : State) (cause : BitVec 4) :
    (s.raiseFatal cause).staging = s.staging := rfl
@[simp] theorem State.raiseFatal_host (s : State) (cause : BitVec 4) : (s.raiseFatal cause).host = s.host := rfl
@[simp] theorem State.raiseFatal_active (s : State) (cause : BitVec 4) : (s.raiseFatal cause).active = s.active := rfl
@[simp] theorem State.raiseFatal_derived (s : State) (cause : BitVec 4) :
    (s.raiseFatal cause).derived = s.derived := rfl
@[simp] theorem State.raiseFatal_seq (s : State) (cause : BitVec 4) : (s.raiseFatal cause).seq = s.seq := rfl
@[simp] theorem State.raiseFatal_pfd (s : State) (cause : BitVec 4) : (s.raiseFatal cause).pfd = s.pfd := rfl
@[simp] theorem State.raiseFatal_pi (s : State) (cause : BitVec 4) : (s.raiseFatal cause).pi = s.pi := rfl
@[simp] theorem State.raiseFatal_lock (s : State) (cause : BitVec 4) : (s.raiseFatal cause).lock = s.lock := rfl
@[simp] theorem State.raiseFatal_mailbox (s : State) (cause : BitVec 4) :
    (s.raiseFatal cause).mailbox = s.mailbox := rfl
@[simp] theorem State.raiseFatal_sdm (s : State) (cause : BitVec 4) : (s.raiseFatal cause).sdm = s.sdm := rfl
@[simp] theorem State.raiseFatal_status (s : State) (cause : BitVec 4) :
    (s.raiseFatal cause).status = { initialised := false, fatal := true, errCode := errConfig, cfgCause := cause } := rfl
@[simp] theorem State.raiseFatal_mem (s : State) (cause : BitVec 4) : (s.raiseFatal cause).mem = s.mem := rfl
@[simp] theorem State.raiseFatal_lutEpoch (s : State) (cause : BitVec 4) :
    (s.raiseFatal cause).lutEpoch = s.lutEpoch := rfl
@[simp] theorem State.raiseFatal_inputs (s : State) (cause : BitVec 4) : (s.raiseFatal cause).inputs = s.inputs := rfl
@[simp] theorem State.raiseFatal_orderCount (s : State) (cause : BitVec 4) :
    (s.raiseFatal cause).orderCount = s.orderCount := rfl
@[simp] theorem State.raiseFatal_outputs (s : State) (cause : BitVec 4) :
    (s.raiseFatal cause).outputs = s.outputs := rfl
@[simp] theorem State.raiseFatal_readLog (s : State) (cause : BitVec 4) :
    (s.raiseFatal cause).readLog = s.readLog := rfl

@[simp] theorem State.clearError_params (s : State) : s.clearError.params = s.params := rfl
@[simp] theorem State.clearError_staging (s : State) : s.clearError.staging = s.staging := rfl
@[simp] theorem State.clearError_host (s : State) : s.clearError.host = s.host := rfl
@[simp] theorem State.clearError_active (s : State) : s.clearError.active = s.active := rfl
@[simp] theorem State.clearError_derived (s : State) : s.clearError.derived = s.derived := rfl
@[simp] theorem State.clearError_seq (s : State) : s.clearError.seq = s.seq := rfl
@[simp] theorem State.clearError_pfd (s : State) : s.clearError.pfd = s.pfd := rfl
@[simp] theorem State.clearError_pi (s : State) : s.clearError.pi = s.pi := rfl
@[simp] theorem State.clearError_lock (s : State) : s.clearError.lock = s.lock := rfl
@[simp] theorem State.clearError_mailbox (s : State) : s.clearError.mailbox = s.mailbox := rfl
@[simp] theorem State.clearError_sdm (s : State) : s.clearError.sdm = s.sdm := rfl
@[simp] theorem State.clearError_status (s : State) : s.clearError.status = { s.status with errCode := 0x00#8 } := rfl
@[simp] theorem State.clearError_mem (s : State) : s.clearError.mem = s.mem := rfl
@[simp] theorem State.clearError_lutEpoch (s : State) : s.clearError.lutEpoch = s.lutEpoch := rfl
@[simp] theorem State.clearError_inputs (s : State) : s.clearError.inputs = s.inputs := rfl
@[simp] theorem State.clearError_orderCount (s : State) : s.clearError.orderCount = s.orderCount := rfl
@[simp] theorem State.clearError_outputs (s : State) : s.clearError.outputs = s.outputs := rfl
@[simp] theorem State.clearError_readLog (s : State) : s.clearError.readLog = s.readLog := rfl

@[simp] theorem State.lutWrite_params (s : State) (i : Nat) (v : Half) : (s.lutWrite i v).params = s.params := rfl
@[simp] theorem State.lutWrite_staging (s : State) (i : Nat) (v : Half) : (s.lutWrite i v).staging = s.staging := rfl
@[simp] theorem State.lutWrite_host (s : State) (i : Nat) (v : Half) : (s.lutWrite i v).host = s.host := rfl
@[simp] theorem State.lutWrite_active (s : State) (i : Nat) (v : Half) : (s.lutWrite i v).active = s.active := rfl
@[simp] theorem State.lutWrite_derived (s : State) (i : Nat) (v : Half) : (s.lutWrite i v).derived = s.derived := rfl
@[simp] theorem State.lutWrite_seq (s : State) (i : Nat) (v : Half) : (s.lutWrite i v).seq = s.seq := rfl
@[simp] theorem State.lutWrite_pfd (s : State) (i : Nat) (v : Half) : (s.lutWrite i v).pfd = s.pfd := rfl
@[simp] theorem State.lutWrite_pi (s : State) (i : Nat) (v : Half) : (s.lutWrite i v).pi = s.pi := rfl
@[simp] theorem State.lutWrite_lock (s : State) (i : Nat) (v : Half) : (s.lutWrite i v).lock = s.lock := rfl
@[simp] theorem State.lutWrite_mailbox (s : State) (i : Nat) (v : Half) : (s.lutWrite i v).mailbox = s.mailbox := rfl
@[simp] theorem State.lutWrite_sdm (s : State) (i : Nat) (v : Half) : (s.lutWrite i v).sdm = s.sdm := rfl
@[simp] theorem State.lutWrite_status (s : State) (i : Nat) (v : Half) : (s.lutWrite i v).status = s.status := rfl
@[simp] theorem State.lutWrite_mem (s : State) (i : Nat) (v : Half) :
    (s.lutWrite i v).mem = Memory.store (Memory.store s.mem (lutAddr i) (v.extractLsb' 0 8)) (lutAddr i + 1) (v.extractLsb' 8 8) := rfl
@[simp] theorem State.lutWrite_lutEpoch (s : State) (i : Nat) (v : Half) :
    (s.lutWrite i v).lutEpoch = s.lutEpoch := rfl
@[simp] theorem State.lutWrite_inputs (s : State) (i : Nat) (v : Half) : (s.lutWrite i v).inputs = s.inputs := rfl
@[simp] theorem State.lutWrite_orderCount (s : State) (i : Nat) (v : Half) :
    (s.lutWrite i v).orderCount = s.orderCount := rfl
@[simp] theorem State.lutWrite_outputs (s : State) (i : Nat) (v : Half) : (s.lutWrite i v).outputs = s.outputs := rfl
@[simp] theorem State.lutWrite_readLog (s : State) (i : Nat) (v : Half) : (s.lutWrite i v).readLog = s.readLog := rfl

@[simp] theorem State.idle_params (s : State) : s.idle.params = s.params := rfl
@[simp] theorem State.idle_staging (s : State) : s.idle.staging = s.staging := rfl
@[simp] theorem State.idle_host (s : State) : s.idle.host = s.host := rfl
@[simp] theorem State.idle_active (s : State) : s.idle.active = s.active := rfl
@[simp] theorem State.idle_derived (s : State) : s.idle.derived = s.derived := rfl
@[simp] theorem State.idle_seq (s : State) : s.idle.seq = s.seq := rfl
@[simp] theorem State.idle_pfd (s : State) : s.idle.pfd = s.pfd := rfl
@[simp] theorem State.idle_pi (s : State) : s.idle.pi = s.pi := rfl
@[simp] theorem State.idle_lock (s : State) : s.idle.lock = s.lock := rfl
@[simp] theorem State.idle_mailbox (s : State) : s.idle.mailbox = s.mailbox := rfl
@[simp] theorem State.idle_sdm (s : State) : s.idle.sdm = s.sdm := rfl
@[simp] theorem State.idle_status (s : State) : s.idle.status = s.status := rfl
@[simp] theorem State.idle_mem (s : State) : s.idle.mem = s.mem := rfl
@[simp] theorem State.idle_lutEpoch (s : State) : s.idle.lutEpoch = s.lutEpoch := rfl
@[simp] theorem State.idle_inputs (s : State) : s.idle.inputs = s.inputs.tail := rfl
@[simp] theorem State.idle_orderCount (s : State) : s.idle.orderCount = s.orderCount := rfl
@[simp] theorem State.idle_outputs (s : State) : s.idle.outputs = s.outputs := rfl
@[simp] theorem State.idle_readLog (s : State) : s.idle.readLog = s.readLog := rfl

@[simp] theorem State.hardReset_params (s : State) : s.hardReset.params = s.params := rfl
@[simp] theorem State.hardReset_staging (s : State) :
    s.hardReset.staging =
      { ctrl := 0, kp := 0, ki := 0, loopRate := 0, pllRatio := 0, refInc := 0, lutN := 0, nomIdx := 0,
        ppmRange := 0, sdmLimits := 0 } := rfl
@[simp] theorem State.hardReset_host (s : State) :
    s.hardReset.host =
      { arg0 := 0, arg1 := 0, result0 := 0, result1 := 0 } := rfl
@[simp] theorem State.hardReset_active (s : State) :
    s.hardReset.active =
      { ctrl := 0, kp := 0, ki := 0, loopRate := 0, lutN := 0, nomIdx := 0, sdmLimits := 0 } := rfl
@[simp] theorem State.hardReset_derived (s : State) :
    s.hardReset.derived =
      { mclkExpInc := 0, refExpInc := 0, scaleNum := 0, maxDiff := 0, windup := 0 } := rfl
@[simp] theorem State.hardReset_seq (s : State) : s.hardReset.seq = { loopCounter := 0, firstLoop := true } := rfl
@[simp] theorem State.hardReset_pfd (s : State) :
    s.hardReset.pfd =
      { mclkLast := 0, refLast := 0, lastDiff := 0, resync := false } := rfl
@[simp] theorem State.hardReset_pi (s : State) : s.hardReset.pi = { accum := 0, lastControl := 0 } := rfl
@[simp] theorem State.hardReset_lock (s : State) :
    s.hardReset.lock =
      { countdown := s.params.lockCount, status := unlockedLow, currentValue := 0 } := rfl
@[simp] theorem State.hardReset_mailbox (s : State) : s.hardReset.mailbox = { slot := 0, full := false } := rfl
@[simp] theorem State.hardReset_sdm (s : State) : s.hardReset.sdm = { hold := 0, e1 := 0, e2 := 0, out := 0 } := rfl
@[simp] theorem State.hardReset_status (s : State) :
    s.hardReset.status =
      { initialised := false, fatal := false, errCode := 0, cfgCause := 0 } := rfl
@[simp] theorem State.hardReset_mem (s : State) : s.hardReset.mem = [] := rfl
@[simp] theorem State.hardReset_lutEpoch (s : State) : s.hardReset.lutEpoch = s.lutEpoch + 1 := rfl
@[simp] theorem State.hardReset_inputs (s : State) : s.hardReset.inputs = s.inputs := rfl
@[simp] theorem State.hardReset_orderCount (s : State) : s.hardReset.orderCount = s.orderCount := rfl
@[simp] theorem State.hardReset_outputs (s : State) : s.hardReset.outputs = s.outputs := rfl
@[simp] theorem State.hardReset_readLog (s : State) : s.hardReset.readLog = s.readLog := rfl

end Sys2Proof.Machine
end

