-- ==== Sys2Proof/Laws/Memory.lean ====
section
/-!
SUPPORT. The laws of the LUT RAM's storage: a read after a write, every other byte left alone, the canonical form kept by
every operation, and equal contents being equal data.
-/

namespace Sys2Proof.Machine

theorem Memory.find_store_same (m : Memory) (a : Nat) (v : Byte) : (m.store a v).find a = some v := by
  induction m with
  | nil => simp [Memory.store, Memory.find]
  | cons c rest ih =>
    obtain ⟨b, w⟩ := c
    unfold Memory.store
    split
    · simp [Memory.find]
    · split
      · simp [Memory.find]
      · next h => simp [Memory.find, Ne.symm h, ih]

theorem Memory.find_store_other (m : Memory) {a b : Nat} (v : Byte) (h : b ≠ a) : (m.store a v).find b = m.find b := by
  induction m with
  | nil => simp [Memory.store, Memory.find, Ne.symm h]
  | cons c rest ih =>
    obtain ⟨k, w⟩ := c
    unfold Memory.store
    split
    · simp [Memory.find, Ne.symm h]
    · split
      · next hk => subst hk; simp [Memory.find, Ne.symm h]
      · simp [Memory.find, ih]

theorem Memory.above_iff (bound : Nat) (m : Memory) : m.above bound = true ↔ ∀ c ∈ m, bound < c.1 := by
  simp [Memory.above, List.all_eq_true]

theorem Memory.mem_store {m : Memory} {a : Nat} {v : Byte} {c : Host.Cell} (h : c ∈ m.store a v) :
    c = (a, v) ∨ c ∈ m := by
  induction m with
  | nil => simpa [Memory.store] using h
  | cons d rest ih =>
    obtain ⟨k, w⟩ := d
    unfold Memory.store at h
    split at h
    · simpa using h
    · split at h
      · rcases List.mem_cons.1 h with h | h
        · exact .inl h
        · exact .inr (List.mem_cons_of_mem _ h)
      · rcases List.mem_cons.1 h with h | h
        · exact .inr (h ▸ List.mem_cons_self)
        · exact (ih h).imp id (List.mem_cons_of_mem _)

/-- Every memory operation keeps the canonical form. -/
theorem Memory.wf_store {m : Memory} (a : Nat) (v : Byte) (h : m.wf = true) : (m.store a v).wf = true := by
  induction m with
  | nil => simp [Memory.store, Memory.wf, Memory.above]
  | cons c rest ih =>
    obtain ⟨k, w⟩ := c
    simp only [Memory.wf, Bool.and_eq_true, Memory.above_iff] at h
    unfold Memory.store
    split
    · next hk =>
      simp only [Memory.wf, Bool.and_eq_true, Memory.above_iff]
      refine ⟨fun c hc => ?_, h⟩
      rcases List.mem_cons.1 hc with rfl | hc
      · exact hk
      · exact lt_trans hk (h.1 c hc)
    · split
      · next hk => subst hk; simpa only [Memory.wf, Bool.and_eq_true, Memory.above_iff] using h
      · next h1 h2 =>
        simp only [Memory.wf, Bool.and_eq_true, Memory.above_iff]
        refine ⟨fun c hc => ?_, ih h.2⟩
        rcases Memory.mem_store hc with rfl | hc
        · show k < a
          omega
        · exact h.1 c hc

theorem Memory.wf_lutWrite {s : State} (i : Nat) (v : Half) (h : Memory.wf s.mem = true) :
    Memory.wf (s.lutWrite i v).mem = true :=
  Memory.wf_store _ _ (Memory.wf_store _ _ h)

theorem Memory.wf_reset : Memory.wf State.reset.mem = true := rfl

theorem Memory.find_eq_none_of_above {m : Memory} {a b : Nat} (h : m.above b = true) (hb : a ≤ b) : m.find a = none := by
  induction m with
  | nil => rfl
  | cons c rest ih =>
    obtain ⟨k, w⟩ := c
    rw [Memory.above_iff] at h
    have hk : b < k := h _ List.mem_cons_self
    have : k ≠ a := by omega
    simp only [Memory.find, this, if_false]
    exact ih ((Memory.above_iff _ _).2 fun c hc => h c (List.mem_cons_of_mem _ hc))

/-- Equal contents are equal data: two canonical lists that read the same everywhere are the same list. -/
theorem Memory.ext_of_wf {m n : Memory} (hm : m.wf = true) (hn : n.wf = true) (h : ∀ a, m.find a = n.find a) : m = n := by
  induction m generalizing n with
  | nil =>
    cases n with
    | nil => rfl
    | cons d rest => simpa [Memory.find] using h d.1
  | cons c rest ih =>
    obtain ⟨k, w⟩ := c
    cases n with
    | nil => simpa [Memory.find] using h k
    | cons d rest' =>
      obtain ⟨k', w'⟩ := d
      simp only [Memory.wf, Bool.and_eq_true] at hm hn
      have key : k = k' := by
        rcases Nat.lt_trichotomy k k' with hlt | heq | hgt
        · have := h k
          rw [Memory.find, if_pos rfl, Memory.find, if_neg (by omega),
            Memory.find_eq_none_of_above hn.1 (by omega)] at this
          simp at this
        · exact heq
        · have := h k'
          rw [Memory.find, if_neg (by omega), Memory.find_eq_none_of_above hm.1 (by omega), Memory.find,
            if_pos rfl] at this
          simp at this
      subst key
      have hw : w = w' := by simpa [Memory.find] using h k
      subst hw
      congr 1
      refine ih hm.2 hn.2 fun a => ?_
      by_cases ha : k = a
      · subst ha
        rw [Memory.find_eq_none_of_above hm.1 le_rfl, Memory.find_eq_none_of_above hn.1 le_rfl]
      · have := h a
        simpa [Memory.find, ha] using this

/-- What a byte reads as depends on what is listed and on the LUT RAM's epoch alone. -/
theorem State.readByte_congr {s t : State} (hm : t.mem = s.mem) (he : t.lutEpoch = s.lutEpoch) (a : Nat) :
    t.readByte a = s.readByte a := by
  simp [State.readByte, hm, he]

theorem State.lutRead_congr {s t : State} (hm : t.mem = s.mem) (he : t.lutEpoch = s.lutEpoch) (i : Nat) :
    t.lutRead i = s.lutRead i := by
  simp [State.lutRead, State.readByte, hm, he]

theorem State.readByte_lutWrite_low (s : State) (i : Nat) (v : Half) :
    (s.lutWrite i v).readByte (lutAddr i) = v.extractLsb' 0 8 := by
  simp [State.readByte, Memory.find_store_other _ _ (show lutAddr i ≠ lutAddr i + 1 by omega), Memory.find_store_same]

theorem State.readByte_lutWrite_high (s : State) (i : Nat) (v : Half) :
    (s.lutWrite i v).readByte (lutAddr i + 1) = v.extractLsb' 8 8 := by
  simp [State.readByte, Memory.find_store_same]

/-- A write to LUT[i] leaves every byte but its own two alone. -/
theorem State.readByte_lutWrite_other (s : State) {i a : Nat} (v : Half) (h0 : a ≠ lutAddr i) (h1 : a ≠ lutAddr i + 1) :
    (s.lutWrite i v).readByte a = s.readByte a := by
  simp [State.readByte, Memory.find_store_other _ _ h0, Memory.find_store_other _ _ h1]

theorem State.lutRead_lutWrite_same (s : State) (i : Nat) (v : Half) : (s.lutWrite i v).lutRead i = v := by
  rw [State.lutRead, State.readByte_lutWrite_low, State.readByte_lutWrite_high]
  ext j hj
  simp only [BitVec.getElem_append, BitVec.getElem_extractLsb']
  split
  · simp [BitVec.getLsbD_eq_getElem hj]
  · rw [show 8 + (j - 8) = j by omega, BitVec.getLsbD_eq_getElem hj]

theorem State.lutRead_lutWrite_other (s : State) {i j : Nat} (v : Half) (h : j ≠ i) :
    (s.lutWrite i v).lutRead j = s.lutRead j := by
  rw [State.lutRead, State.lutRead, State.readByte_lutWrite_other, State.readByte_lutWrite_other] <;>
    (unfold lutAddr; omega)

end Sys2Proof.Machine
end

