-- ==== Sys2Proof/Laws/Ops.lean ====
section
/-!
SUPPORT. What each shared operation can do, said once: the gate of the commands, the four units, the sequencer, INIT and
the bus. Frames are one lemma per field, so that no later proof unfolds an operation to see what it leaves alone.
-/

namespace Sys2Proof.Machine

/-- What the gate can do: ignore the command, reject it, or run its rule. -/
theorem gate_cases (c : Command) (rule : State → State) (s : State) :
    (s.status.fatal = true ∧ gate c rule s = s) ∨
    (s.status.fatal = false ∧ needsInit c = true ∧ s.status.initialised = false ∧
      gate c rule s = s.raiseError errNotInit) ∨
    (s.status.fatal = false ∧ (needsInit c = true → s.status.initialised = true) ∧ needsSdmMode c = true ∧
      s.mode = false ∧ gate c rule s = s.raiseError errMode) ∨
    (s.status.fatal = false ∧ (needsInit c = true → s.status.initialised = true) ∧
      (needsSdmMode c = true → s.mode = true) ∧ gate c rule s = rule s) := by
  unfold gate
  cases s.status.fatal <;> cases needsInit c <;> cases s.status.initialised <;> cases needsSdmMode c <;>
    cases s.mode <;> simp

theorem gate_run {c : Command} {rule : State → State} {s : State} (hf : s.status.fatal = false)
    (hi : needsInit c = true → s.status.initialised = true) (hm : needsSdmMode c = true → s.mode = true) :
    gate c rule s = rule s := by
  unfold gate
  cases hc : needsInit c <;> cases hd : needsSdmMode c <;> simp_all

/-- EXECUTE runs a legal command, rejects an illegal word, and ignores both in the fatal state. -/
theorem execute_cases (w : Word) (s : State) :
    (∃ c, decodeCommand w = .ok c ∧ execute w s = runCommand c s) ∨
    (s.status.fatal = true ∧ execute w s = s) ∨
    (s.status.fatal = false ∧ execute w s = s.raiseError errIllegalCmd) := by
  unfold execute
  cases decodeCommand w with
  | ok c => exact .inl ⟨c, rfl, rfl⟩
  | error e => cases s.status.fatal <;> simp

/-- A WRITE reaches a register, a LUT entry, or nothing. -/
theorem busWrite_cases (a : Addr) (d : Word) (s : State) :
    (∃ r, s.locate a = some (.reg r) ∧ busWrite a d s = writeReg r d s) ∨
    (∃ i, s.locate a = some (.lut i) ∧ busWrite a d s = s.lutWrite i (d.extractLsb' 0 16)) ∨
    (s.locate a = none ∧ busWrite a d s = s.raiseError errBus) := by
  unfold busWrite
  cases h : s.locate a with
  | none => simp
  | some l => cases l <;> simp

/-- A READ changes the block's state only by a BUS error. -/
theorem busRead_cases (a : Addr) (s : State) :
    (∃ l, s.locate a = some l ∧ busRead a s = { s with readLog := s.readLog ++ [s.view l] }) ∨
    (s.locate a = none ∧
      busRead a s = { s.raiseError errBus with readLog := s.readLog ++ [0#32] }) := by
  unfold busRead State.readValue
  cases h : s.locate a with
  | none => simp
  | some l => simp

/-- A LUT location is an aligned address of the window, below LUT_DEPTH entries. -/
theorem locate_lut {s : State} {a : Addr} {i : Nat} (h : s.locate a = some (.lut i)) :
    a.toNat = lutAddr i ∧ i < s.params.lutDepth := by
  unfold State.locate at h
  split at h
  · exact absurd h (by simp)
  · next ha =>
    split at h
    · simp [Option.map_eq_some_iff] at h
    · split at h
      · next h1 h2 =>
        have ha' : a.toNat % 4 = 0 := by
          have := congrArg BitVec.toNat (not_not.1 ha)
          simpa using this
        simp only [Option.some.injEq, Location.lut.injEq] at h
        subst h
        exact ⟨by unfold lutAddr; omega, h2⟩
      · exact absurd h (by simp)

/-- UPDATE performs a first-loop update, a resync or a steady update. -/
theorem controlUpdate_cases (m r : Half) (s : State) :
    (s.seq.firstLoop = true ∧ controlUpdate m r s = (.first, firstLoopUpdate m r s)) ∨
    (s.seq.firstLoop = false ∧ (pfdFunction m r s).1.resync = true ∧
      controlUpdate m r s = (.resync, resyncAction m (pfdFunction m r s).2)) ∨
    (s.seq.firstLoop = false ∧ (pfdFunction m r s).1.resync = false ∧
      controlUpdate m r s = (.steady, actuate m (pfdFunction m r s).1.phaseError (pfdFunction m r s).2)) := by
  unfold controlUpdate
  cases s.seq.firstLoop <;> cases h : (pfdFunction m r s).1.resync <;> simp [h]

/-- STEP counts the edge, or resets the counter and performs a control update. -/
theorem edgeStep_cases (m r : Half) (s : State) :
    (s.seq.loopCounter + 1#32 ≠ s.active.loopRate ∧
      edgeStep m r s = (.none, { s with seq := { s.seq with loopCounter := s.seq.loopCounter + 1#32 } })) ∨
    (s.seq.loopCounter + 1#32 = s.active.loopRate ∧
      edgeStep m r s = controlUpdate m r { s with seq := { s.seq with loopCounter := 0#32 } }) := by
  unfold edgeStep
  split <;> simp_all

/-- INIT loads the configuration or enters the fatal state. -/
theorem initRule_cases (s : State) :
    (cfgCheck s.staging s.params = 0 ∧ initRule s = load s) ∨
    (cfgCheck s.staging s.params ≠ 0 ∧
      initRule s = s.raiseFatal (BitVec.ofNat 4 (cfgCheck s.staging s.params))) := by
  unfold initRule
  split <;> simp_all

theorem cfgCheck_le (g : Staging) (p : Params) : cfgCheck g p ≤ 9 := by
  unfold cfgCheck
  repeat' split
  all_goals omega

theorem drive_of_sdmMode {c : Int} {s : State} (h : s.mode = true) : drive c s = s.send (BitVec.ofInt 32 c) := by
  simp [drive, h]

theorem drive_of_lutMode {c : Int} {s : State} (h : s.mode = false) :
    drive c s = (lutFunction c s).2.emitFrac (lutFunction c s).1 := by
  simp [drive, h]

theorem receive_full {s : State} (h : s.mailbox.full = true) :
    s.receive = { s with mailbox := { s.mailbox with full := false },
                         sdm := { s.sdm with hold := s.mailbox.slot } } := by
  simp [State.receive, h]

theorem receive_empty {s : State} (h : s.mailbox.full = false) : s.receive = s := by
  simp [State.receive, h]

@[simp] theorem pfdFunction_params (m r : Half) (s : State) : ((pfdFunction m r s).2).params = s.params := rfl
@[simp] theorem pfdFunction_staging (m r : Half) (s : State) : ((pfdFunction m r s).2).staging = s.staging := rfl
@[simp] theorem pfdFunction_host (m r : Half) (s : State) : ((pfdFunction m r s).2).host = s.host := rfl
@[simp] theorem pfdFunction_active (m r : Half) (s : State) : ((pfdFunction m r s).2).active = s.active := rfl
@[simp] theorem pfdFunction_derived (m r : Half) (s : State) : ((pfdFunction m r s).2).derived = s.derived := rfl
@[simp] theorem pfdFunction_seq (m r : Half) (s : State) : ((pfdFunction m r s).2).seq = s.seq := rfl
@[simp] theorem pfdFunction_pi (m r : Half) (s : State) : ((pfdFunction m r s).2).pi = s.pi := rfl
@[simp] theorem pfdFunction_lock (m r : Half) (s : State) : ((pfdFunction m r s).2).lock = s.lock := rfl
@[simp] theorem pfdFunction_mailbox (m r : Half) (s : State) : ((pfdFunction m r s).2).mailbox = s.mailbox := rfl
@[simp] theorem pfdFunction_sdm (m r : Half) (s : State) : ((pfdFunction m r s).2).sdm = s.sdm := rfl
@[simp] theorem pfdFunction_status (m r : Half) (s : State) : ((pfdFunction m r s).2).status = s.status := rfl
@[simp] theorem pfdFunction_mem (m r : Half) (s : State) : ((pfdFunction m r s).2).mem = s.mem := rfl
@[simp] theorem pfdFunction_lutEpoch (m r : Half) (s : State) : ((pfdFunction m r s).2).lutEpoch = s.lutEpoch := rfl
@[simp] theorem pfdFunction_inputs (m r : Half) (s : State) : ((pfdFunction m r s).2).inputs = s.inputs := rfl
@[simp] theorem pfdFunction_orderCount (m r : Half) (s : State) :
    ((pfdFunction m r s).2).orderCount = s.orderCount := rfl
@[simp] theorem pfdFunction_outputs (m r : Half) (s : State) : ((pfdFunction m r s).2).outputs = s.outputs := rfl
@[simp] theorem pfdFunction_readLog (m r : Half) (s : State) : ((pfdFunction m r s).2).readLog = s.readLog := rfl

@[simp] theorem piFunction_params (e : Int) (s : State) : ((piFunction e s).2).params = s.params := rfl
@[simp] theorem piFunction_staging (e : Int) (s : State) : ((piFunction e s).2).staging = s.staging := rfl
@[simp] theorem piFunction_host (e : Int) (s : State) : ((piFunction e s).2).host = s.host := rfl
@[simp] theorem piFunction_active (e : Int) (s : State) : ((piFunction e s).2).active = s.active := rfl
@[simp] theorem piFunction_derived (e : Int) (s : State) : ((piFunction e s).2).derived = s.derived := rfl
@[simp] theorem piFunction_seq (e : Int) (s : State) : ((piFunction e s).2).seq = s.seq := rfl
@[simp] theorem piFunction_pfd (e : Int) (s : State) : ((piFunction e s).2).pfd = s.pfd := rfl
@[simp] theorem piFunction_lock (e : Int) (s : State) : ((piFunction e s).2).lock = s.lock := rfl
@[simp] theorem piFunction_mailbox (e : Int) (s : State) : ((piFunction e s).2).mailbox = s.mailbox := rfl
@[simp] theorem piFunction_sdm (e : Int) (s : State) : ((piFunction e s).2).sdm = s.sdm := rfl
@[simp] theorem piFunction_status (e : Int) (s : State) : ((piFunction e s).2).status = s.status := rfl
@[simp] theorem piFunction_mem (e : Int) (s : State) : ((piFunction e s).2).mem = s.mem := rfl
@[simp] theorem piFunction_lutEpoch (e : Int) (s : State) : ((piFunction e s).2).lutEpoch = s.lutEpoch := rfl
@[simp] theorem piFunction_inputs (e : Int) (s : State) : ((piFunction e s).2).inputs = s.inputs := rfl
@[simp] theorem piFunction_orderCount (e : Int) (s : State) : ((piFunction e s).2).orderCount = s.orderCount := rfl
@[simp] theorem piFunction_outputs (e : Int) (s : State) : ((piFunction e s).2).outputs = s.outputs := rfl
@[simp] theorem piFunction_readLog (e : Int) (s : State) : ((piFunction e s).2).readLog = s.readLog := rfl

@[simp] theorem lutFunction_params (c : Int) (s : State) : ((lutFunction c s).2).params = s.params := rfl
@[simp] theorem lutFunction_staging (c : Int) (s : State) : ((lutFunction c s).2).staging = s.staging := rfl
@[simp] theorem lutFunction_host (c : Int) (s : State) : ((lutFunction c s).2).host = s.host := rfl
@[simp] theorem lutFunction_active (c : Int) (s : State) : ((lutFunction c s).2).active = s.active := rfl
@[simp] theorem lutFunction_derived (c : Int) (s : State) : ((lutFunction c s).2).derived = s.derived := rfl
@[simp] theorem lutFunction_seq (c : Int) (s : State) : ((lutFunction c s).2).seq = s.seq := rfl
@[simp] theorem lutFunction_pfd (c : Int) (s : State) : ((lutFunction c s).2).pfd = s.pfd := rfl
@[simp] theorem lutFunction_pi (c : Int) (s : State) : ((lutFunction c s).2).pi = s.pi := rfl
@[simp] theorem lutFunction_mailbox (c : Int) (s : State) : ((lutFunction c s).2).mailbox = s.mailbox := rfl
@[simp] theorem lutFunction_sdm (c : Int) (s : State) : ((lutFunction c s).2).sdm = s.sdm := rfl
@[simp] theorem lutFunction_status (c : Int) (s : State) : ((lutFunction c s).2).status = s.status := rfl
@[simp] theorem lutFunction_mem (c : Int) (s : State) : ((lutFunction c s).2).mem = s.mem := rfl
@[simp] theorem lutFunction_lutEpoch (c : Int) (s : State) : ((lutFunction c s).2).lutEpoch = s.lutEpoch := rfl
@[simp] theorem lutFunction_inputs (c : Int) (s : State) : ((lutFunction c s).2).inputs = s.inputs := rfl
@[simp] theorem lutFunction_orderCount (c : Int) (s : State) : ((lutFunction c s).2).orderCount = s.orderCount := rfl
@[simp] theorem lutFunction_outputs (c : Int) (s : State) : ((lutFunction c s).2).outputs = s.outputs := rfl
@[simp] theorem lutFunction_readLog (c : Int) (s : State) : ((lutFunction c s).2).readLog = s.readLog := rfl

@[simp] theorem receive_params (s : State) : (s.receive).params = s.params := by unfold State.receive; split <;> rfl
@[simp] theorem receive_staging (s : State) :
    (s.receive).staging = s.staging := by unfold State.receive; split <;> rfl
@[simp] theorem receive_host (s : State) : (s.receive).host = s.host := by unfold State.receive; split <;> rfl
@[simp] theorem receive_active (s : State) : (s.receive).active = s.active := by unfold State.receive; split <;> rfl
@[simp] theorem receive_derived (s : State) :
    (s.receive).derived = s.derived := by unfold State.receive; split <;> rfl
@[simp] theorem receive_seq (s : State) : (s.receive).seq = s.seq := by unfold State.receive; split <;> rfl
@[simp] theorem receive_pfd (s : State) : (s.receive).pfd = s.pfd := by unfold State.receive; split <;> rfl
@[simp] theorem receive_pi (s : State) : (s.receive).pi = s.pi := by unfold State.receive; split <;> rfl
@[simp] theorem receive_lock (s : State) : (s.receive).lock = s.lock := by unfold State.receive; split <;> rfl
@[simp] theorem receive_status (s : State) : (s.receive).status = s.status := by unfold State.receive; split <;> rfl
@[simp] theorem receive_mem (s : State) : (s.receive).mem = s.mem := by unfold State.receive; split <;> rfl
@[simp] theorem receive_lutEpoch (s : State) :
    (s.receive).lutEpoch = s.lutEpoch := by unfold State.receive; split <;> rfl
@[simp] theorem receive_inputs (s : State) : (s.receive).inputs = s.inputs := by unfold State.receive; split <;> rfl
@[simp] theorem receive_orderCount (s : State) :
    (s.receive).orderCount = s.orderCount := by unfold State.receive; split <;> rfl
@[simp] theorem receive_outputs (s : State) :
    (s.receive).outputs = s.outputs := by unfold State.receive; split <;> rfl
@[simp] theorem receive_readLog (s : State) :
    (s.receive).readLog = s.readLog := by unfold State.receive; split <;> rfl

@[simp] theorem sdmStep_params (s : State) : ((sdmStep s).2).params = s.params := by unfold sdmStep; simp
@[simp] theorem sdmStep_staging (s : State) : ((sdmStep s).2).staging = s.staging := by unfold sdmStep; simp
@[simp] theorem sdmStep_host (s : State) : ((sdmStep s).2).host = s.host := by unfold sdmStep; simp
@[simp] theorem sdmStep_active (s : State) : ((sdmStep s).2).active = s.active := by unfold sdmStep; simp
@[simp] theorem sdmStep_derived (s : State) : ((sdmStep s).2).derived = s.derived := by unfold sdmStep; simp
@[simp] theorem sdmStep_seq (s : State) : ((sdmStep s).2).seq = s.seq := by unfold sdmStep; simp
@[simp] theorem sdmStep_pfd (s : State) : ((sdmStep s).2).pfd = s.pfd := by unfold sdmStep; simp
@[simp] theorem sdmStep_pi (s : State) : ((sdmStep s).2).pi = s.pi := by unfold sdmStep; simp
@[simp] theorem sdmStep_lock (s : State) : ((sdmStep s).2).lock = s.lock := by unfold sdmStep; simp
@[simp] theorem sdmStep_status (s : State) : ((sdmStep s).2).status = s.status := by unfold sdmStep; simp
@[simp] theorem sdmStep_mem (s : State) : ((sdmStep s).2).mem = s.mem := by unfold sdmStep; simp
@[simp] theorem sdmStep_lutEpoch (s : State) : ((sdmStep s).2).lutEpoch = s.lutEpoch := by unfold sdmStep; simp
@[simp] theorem sdmStep_inputs (s : State) : ((sdmStep s).2).inputs = s.inputs := by unfold sdmStep; simp
@[simp] theorem sdmStep_orderCount (s : State) : ((sdmStep s).2).orderCount = s.orderCount := by unfold sdmStep; simp
@[simp] theorem sdmStep_readLog (s : State) : ((sdmStep s).2).readLog = s.readLog := by unfold sdmStep; simp

@[simp] theorem firstLoopUpdate_params (m r : Half) (s : State) : (firstLoopUpdate m r s).params = s.params := rfl
@[simp] theorem firstLoopUpdate_staging (m r : Half) (s : State) : (firstLoopUpdate m r s).staging = s.staging := rfl
@[simp] theorem firstLoopUpdate_host (m r : Half) (s : State) : (firstLoopUpdate m r s).host = s.host := rfl
@[simp] theorem firstLoopUpdate_active (m r : Half) (s : State) : (firstLoopUpdate m r s).active = s.active := rfl
@[simp] theorem firstLoopUpdate_derived (m r : Half) (s : State) : (firstLoopUpdate m r s).derived = s.derived := rfl
@[simp] theorem firstLoopUpdate_mailbox (m r : Half) (s : State) : (firstLoopUpdate m r s).mailbox = s.mailbox := rfl
@[simp] theorem firstLoopUpdate_sdm (m r : Half) (s : State) : (firstLoopUpdate m r s).sdm = s.sdm := rfl
@[simp] theorem firstLoopUpdate_status (m r : Half) (s : State) : (firstLoopUpdate m r s).status = s.status := rfl
@[simp] theorem firstLoopUpdate_mem (m r : Half) (s : State) : (firstLoopUpdate m r s).mem = s.mem := rfl
@[simp] theorem firstLoopUpdate_lutEpoch (m r : Half) (s : State) :
    (firstLoopUpdate m r s).lutEpoch = s.lutEpoch := rfl
@[simp] theorem firstLoopUpdate_inputs (m r : Half) (s : State) : (firstLoopUpdate m r s).inputs = s.inputs := rfl
@[simp] theorem firstLoopUpdate_orderCount (m r : Half) (s : State) :
    (firstLoopUpdate m r s).orderCount = s.orderCount := rfl
@[simp] theorem firstLoopUpdate_outputs (m r : Half) (s : State) : (firstLoopUpdate m r s).outputs = s.outputs := rfl
@[simp] theorem firstLoopUpdate_readLog (m r : Half) (s : State) : (firstLoopUpdate m r s).readLog = s.readLog := rfl

@[simp] theorem resyncAction_params (m : Half) (s : State) : (resyncAction m s).params = s.params := rfl
@[simp] theorem resyncAction_staging (m : Half) (s : State) : (resyncAction m s).staging = s.staging := rfl
@[simp] theorem resyncAction_host (m : Half) (s : State) : (resyncAction m s).host = s.host := rfl
@[simp] theorem resyncAction_active (m : Half) (s : State) : (resyncAction m s).active = s.active := rfl
@[simp] theorem resyncAction_derived (m : Half) (s : State) : (resyncAction m s).derived = s.derived := rfl
@[simp] theorem resyncAction_pi (m : Half) (s : State) : (resyncAction m s).pi = s.pi := rfl
@[simp] theorem resyncAction_lock (m : Half) (s : State) : (resyncAction m s).lock = s.lock := rfl
@[simp] theorem resyncAction_mailbox (m : Half) (s : State) : (resyncAction m s).mailbox = s.mailbox := rfl
@[simp] theorem resyncAction_sdm (m : Half) (s : State) : (resyncAction m s).sdm = s.sdm := rfl
@[simp] theorem resyncAction_status (m : Half) (s : State) : (resyncAction m s).status = s.status := rfl
@[simp] theorem resyncAction_mem (m : Half) (s : State) : (resyncAction m s).mem = s.mem := rfl
@[simp] theorem resyncAction_lutEpoch (m : Half) (s : State) : (resyncAction m s).lutEpoch = s.lutEpoch := rfl
@[simp] theorem resyncAction_inputs (m : Half) (s : State) : (resyncAction m s).inputs = s.inputs := rfl
@[simp] theorem resyncAction_orderCount (m : Half) (s : State) : (resyncAction m s).orderCount = s.orderCount := rfl
@[simp] theorem resyncAction_readLog (m : Half) (s : State) : (resyncAction m s).readLog = s.readLog := rfl

@[simp] theorem drive_params (c : Int) (s : State) : (drive c s).params = s.params := by unfold drive; split <;> rfl
@[simp] theorem drive_staging (c : Int) (s : State) :
    (drive c s).staging = s.staging := by unfold drive; split <;> rfl
@[simp] theorem drive_host (c : Int) (s : State) : (drive c s).host = s.host := by unfold drive; split <;> rfl
@[simp] theorem drive_active (c : Int) (s : State) : (drive c s).active = s.active := by unfold drive; split <;> rfl
@[simp] theorem drive_derived (c : Int) (s : State) :
    (drive c s).derived = s.derived := by unfold drive; split <;> rfl
@[simp] theorem drive_seq (c : Int) (s : State) : (drive c s).seq = s.seq := by unfold drive; split <;> rfl
@[simp] theorem drive_pfd (c : Int) (s : State) : (drive c s).pfd = s.pfd := by unfold drive; split <;> rfl
@[simp] theorem drive_pi (c : Int) (s : State) : (drive c s).pi = s.pi := by unfold drive; split <;> rfl
@[simp] theorem drive_sdm (c : Int) (s : State) : (drive c s).sdm = s.sdm := by unfold drive; split <;> rfl
@[simp] theorem drive_status (c : Int) (s : State) : (drive c s).status = s.status := by unfold drive; split <;> rfl
@[simp] theorem drive_mem (c : Int) (s : State) : (drive c s).mem = s.mem := by unfold drive; split <;> rfl
@[simp] theorem drive_lutEpoch (c : Int) (s : State) :
    (drive c s).lutEpoch = s.lutEpoch := by unfold drive; split <;> rfl
@[simp] theorem drive_inputs (c : Int) (s : State) : (drive c s).inputs = s.inputs := by unfold drive; split <;> rfl
@[simp] theorem drive_orderCount (c : Int) (s : State) :
    (drive c s).orderCount = s.orderCount := by unfold drive; split <;> rfl
@[simp] theorem drive_readLog (c : Int) (s : State) :
    (drive c s).readLog = s.readLog := by unfold drive; split <;> rfl

@[simp] theorem actuate_params (m : Half) (pe : Int) (s : State) :
    (actuate m pe s).params = s.params := by simp [actuate]
@[simp] theorem actuate_staging (m : Half) (pe : Int) (s : State) :
    (actuate m pe s).staging = s.staging := by simp [actuate]
@[simp] theorem actuate_host (m : Half) (pe : Int) (s : State) : (actuate m pe s).host = s.host := by simp [actuate]
@[simp] theorem actuate_active (m : Half) (pe : Int) (s : State) :
    (actuate m pe s).active = s.active := by simp [actuate]
@[simp] theorem actuate_derived (m : Half) (pe : Int) (s : State) :
    (actuate m pe s).derived = s.derived := by simp [actuate]
@[simp] theorem actuate_seq (m : Half) (pe : Int) (s : State) : (actuate m pe s).seq = s.seq := by simp [actuate]
@[simp] theorem actuate_sdm (m : Half) (pe : Int) (s : State) : (actuate m pe s).sdm = s.sdm := by simp [actuate]
@[simp] theorem actuate_status (m : Half) (pe : Int) (s : State) :
    (actuate m pe s).status = s.status := by simp [actuate]
@[simp] theorem actuate_mem (m : Half) (pe : Int) (s : State) : (actuate m pe s).mem = s.mem := by simp [actuate]
@[simp] theorem actuate_lutEpoch (m : Half) (pe : Int) (s : State) :
    (actuate m pe s).lutEpoch = s.lutEpoch := by simp [actuate]
@[simp] theorem actuate_inputs (m : Half) (pe : Int) (s : State) :
    (actuate m pe s).inputs = s.inputs := by simp [actuate]
@[simp] theorem actuate_orderCount (m : Half) (pe : Int) (s : State) :
    (actuate m pe s).orderCount = s.orderCount := by simp [actuate]
@[simp] theorem actuate_readLog (m : Half) (pe : Int) (s : State) :
    (actuate m pe s).readLog = s.readLog := by simp [actuate]

@[simp] theorem controlUpdate_params (m r : Half) (s : State) :
    ((controlUpdate m r s).2).params = s.params := by
  rcases controlUpdate_cases m r s with ⟨-, h⟩ | ⟨-, -, h⟩ | ⟨-, -, h⟩ <;> simp [h]
@[simp] theorem controlUpdate_staging (m r : Half) (s : State) :
    ((controlUpdate m r s).2).staging = s.staging := by
  rcases controlUpdate_cases m r s with ⟨-, h⟩ | ⟨-, -, h⟩ | ⟨-, -, h⟩ <;> simp [h]
@[simp] theorem controlUpdate_host (m r : Half) (s : State) :
    ((controlUpdate m r s).2).host = s.host := by
  rcases controlUpdate_cases m r s with ⟨-, h⟩ | ⟨-, -, h⟩ | ⟨-, -, h⟩ <;> simp [h]
@[simp] theorem controlUpdate_active (m r : Half) (s : State) :
    ((controlUpdate m r s).2).active = s.active := by
  rcases controlUpdate_cases m r s with ⟨-, h⟩ | ⟨-, -, h⟩ | ⟨-, -, h⟩ <;> simp [h]
@[simp] theorem controlUpdate_derived (m r : Half) (s : State) :
    ((controlUpdate m r s).2).derived = s.derived := by
  rcases controlUpdate_cases m r s with ⟨-, h⟩ | ⟨-, -, h⟩ | ⟨-, -, h⟩ <;> simp [h]
@[simp] theorem controlUpdate_sdm (m r : Half) (s : State) :
    ((controlUpdate m r s).2).sdm = s.sdm := by
  rcases controlUpdate_cases m r s with ⟨-, h⟩ | ⟨-, -, h⟩ | ⟨-, -, h⟩ <;> simp [h]
@[simp] theorem controlUpdate_status (m r : Half) (s : State) :
    ((controlUpdate m r s).2).status = s.status := by
  rcases controlUpdate_cases m r s with ⟨-, h⟩ | ⟨-, -, h⟩ | ⟨-, -, h⟩ <;> simp [h]
@[simp] theorem controlUpdate_mem (m r : Half) (s : State) :
    ((controlUpdate m r s).2).mem = s.mem := by
  rcases controlUpdate_cases m r s with ⟨-, h⟩ | ⟨-, -, h⟩ | ⟨-, -, h⟩ <;> simp [h]
@[simp] theorem controlUpdate_lutEpoch (m r : Half) (s : State) :
    ((controlUpdate m r s).2).lutEpoch = s.lutEpoch := by
  rcases controlUpdate_cases m r s with ⟨-, h⟩ | ⟨-, -, h⟩ | ⟨-, -, h⟩ <;> simp [h]
@[simp] theorem controlUpdate_inputs (m r : Half) (s : State) :
    ((controlUpdate m r s).2).inputs = s.inputs := by
  rcases controlUpdate_cases m r s with ⟨-, h⟩ | ⟨-, -, h⟩ | ⟨-, -, h⟩ <;> simp [h]
@[simp] theorem controlUpdate_orderCount (m r : Half) (s : State) :
    ((controlUpdate m r s).2).orderCount = s.orderCount := by
  rcases controlUpdate_cases m r s with ⟨-, h⟩ | ⟨-, -, h⟩ | ⟨-, -, h⟩ <;> simp [h]
@[simp] theorem controlUpdate_readLog (m r : Half) (s : State) :
    ((controlUpdate m r s).2).readLog = s.readLog := by
  rcases controlUpdate_cases m r s with ⟨-, h⟩ | ⟨-, -, h⟩ | ⟨-, -, h⟩ <;> simp [h]

@[simp] theorem edgeStep_params (m r : Half) (s : State) :
    ((edgeStep m r s).2).params = s.params := by
  rcases edgeStep_cases m r s with ⟨-, h⟩ | ⟨-, h⟩ <;> simp [h]
@[simp] theorem edgeStep_staging (m r : Half) (s : State) :
    ((edgeStep m r s).2).staging = s.staging := by
  rcases edgeStep_cases m r s with ⟨-, h⟩ | ⟨-, h⟩ <;> simp [h]
@[simp] theorem edgeStep_host (m r : Half) (s : State) :
    ((edgeStep m r s).2).host = s.host := by
  rcases edgeStep_cases m r s with ⟨-, h⟩ | ⟨-, h⟩ <;> simp [h]
@[simp] theorem edgeStep_active (m r : Half) (s : State) :
    ((edgeStep m r s).2).active = s.active := by
  rcases edgeStep_cases m r s with ⟨-, h⟩ | ⟨-, h⟩ <;> simp [h]
@[simp] theorem edgeStep_derived (m r : Half) (s : State) :
    ((edgeStep m r s).2).derived = s.derived := by
  rcases edgeStep_cases m r s with ⟨-, h⟩ | ⟨-, h⟩ <;> simp [h]
@[simp] theorem edgeStep_sdm (m r : Half) (s : State) :
    ((edgeStep m r s).2).sdm = s.sdm := by
  rcases edgeStep_cases m r s with ⟨-, h⟩ | ⟨-, h⟩ <;> simp [h]
@[simp] theorem edgeStep_status (m r : Half) (s : State) :
    ((edgeStep m r s).2).status = s.status := by
  rcases edgeStep_cases m r s with ⟨-, h⟩ | ⟨-, h⟩ <;> simp [h]
@[simp] theorem edgeStep_mem (m r : Half) (s : State) :
    ((edgeStep m r s).2).mem = s.mem := by
  rcases edgeStep_cases m r s with ⟨-, h⟩ | ⟨-, h⟩ <;> simp [h]
@[simp] theorem edgeStep_lutEpoch (m r : Half) (s : State) :
    ((edgeStep m r s).2).lutEpoch = s.lutEpoch := by
  rcases edgeStep_cases m r s with ⟨-, h⟩ | ⟨-, h⟩ <;> simp [h]
@[simp] theorem edgeStep_inputs (m r : Half) (s : State) :
    ((edgeStep m r s).2).inputs = s.inputs := by
  rcases edgeStep_cases m r s with ⟨-, h⟩ | ⟨-, h⟩ <;> simp [h]
@[simp] theorem edgeStep_orderCount (m r : Half) (s : State) :
    ((edgeStep m r s).2).orderCount = s.orderCount := by
  rcases edgeStep_cases m r s with ⟨-, h⟩ | ⟨-, h⟩ <;> simp [h]
@[simp] theorem edgeStep_readLog (m r : Half) (s : State) :
    ((edgeStep m r s).2).readLog = s.readLog := by
  rcases edgeStep_cases m r s with ⟨-, h⟩ | ⟨-, h⟩ <;> simp [h]

@[simp] theorem load_params (s : State) : (load s).params = s.params := rfl
@[simp] theorem load_staging (s : State) : (load s).staging = s.staging := rfl
@[simp] theorem load_mem (s : State) : (load s).mem = s.mem := rfl
@[simp] theorem load_lutEpoch (s : State) : (load s).lutEpoch = s.lutEpoch := rfl
@[simp] theorem load_inputs (s : State) : (load s).inputs = s.inputs := rfl
@[simp] theorem load_orderCount (s : State) : (load s).orderCount = s.orderCount := rfl
@[simp] theorem load_outputs (s : State) : (load s).outputs = s.outputs := rfl
@[simp] theorem load_readLog (s : State) : (load s).readLog = s.readLog := rfl

@[simp] theorem publishRule_params (s : State) : (publishRule s).params = s.params := rfl
@[simp] theorem publishRule_staging (s : State) : (publishRule s).staging = s.staging := rfl
@[simp] theorem publishRule_host (s : State) : (publishRule s).host = s.host := rfl
@[simp] theorem publishRule_active (s : State) : (publishRule s).active = s.active := rfl
@[simp] theorem publishRule_derived (s : State) : (publishRule s).derived = s.derived := rfl
@[simp] theorem publishRule_seq (s : State) : (publishRule s).seq = s.seq := rfl
@[simp] theorem publishRule_pfd (s : State) : (publishRule s).pfd = s.pfd := rfl
@[simp] theorem publishRule_pi (s : State) : (publishRule s).pi = s.pi := rfl
@[simp] theorem publishRule_lock (s : State) : (publishRule s).lock = s.lock := rfl
@[simp] theorem publishRule_sdm (s : State) : (publishRule s).sdm = s.sdm := rfl
@[simp] theorem publishRule_status (s : State) : (publishRule s).status = s.status := rfl
@[simp] theorem publishRule_mem (s : State) : (publishRule s).mem = s.mem := rfl
@[simp] theorem publishRule_lutEpoch (s : State) : (publishRule s).lutEpoch = s.lutEpoch := rfl
@[simp] theorem publishRule_inputs (s : State) : (publishRule s).inputs = s.inputs := rfl
@[simp] theorem publishRule_orderCount (s : State) : (publishRule s).orderCount = s.orderCount := rfl
@[simp] theorem publishRule_outputs (s : State) : (publishRule s).outputs = s.outputs := rfl
@[simp] theorem publishRule_readLog (s : State) : (publishRule s).readLog = s.readLog := rfl

@[simp] theorem pfdRule_params (s : State) : (pfdRule s).params = s.params := rfl
@[simp] theorem pfdRule_staging (s : State) : (pfdRule s).staging = s.staging := rfl
@[simp] theorem pfdRule_active (s : State) : (pfdRule s).active = s.active := rfl
@[simp] theorem pfdRule_derived (s : State) : (pfdRule s).derived = s.derived := rfl
@[simp] theorem pfdRule_seq (s : State) : (pfdRule s).seq = s.seq := rfl
@[simp] theorem pfdRule_pi (s : State) : (pfdRule s).pi = s.pi := rfl
@[simp] theorem pfdRule_lock (s : State) : (pfdRule s).lock = s.lock := rfl
@[simp] theorem pfdRule_mailbox (s : State) : (pfdRule s).mailbox = s.mailbox := rfl
@[simp] theorem pfdRule_sdm (s : State) : (pfdRule s).sdm = s.sdm := rfl
@[simp] theorem pfdRule_status (s : State) : (pfdRule s).status = s.status := rfl
@[simp] theorem pfdRule_mem (s : State) : (pfdRule s).mem = s.mem := rfl
@[simp] theorem pfdRule_lutEpoch (s : State) : (pfdRule s).lutEpoch = s.lutEpoch := rfl
@[simp] theorem pfdRule_inputs (s : State) : (pfdRule s).inputs = s.inputs := rfl
@[simp] theorem pfdRule_orderCount (s : State) : (pfdRule s).orderCount = s.orderCount := rfl
@[simp] theorem pfdRule_outputs (s : State) : (pfdRule s).outputs = s.outputs := rfl
@[simp] theorem pfdRule_readLog (s : State) : (pfdRule s).readLog = s.readLog := rfl

@[simp] theorem piRule_params (s : State) : (piRule s).params = s.params := rfl
@[simp] theorem piRule_staging (s : State) : (piRule s).staging = s.staging := rfl
@[simp] theorem piRule_active (s : State) : (piRule s).active = s.active := rfl
@[simp] theorem piRule_derived (s : State) : (piRule s).derived = s.derived := rfl
@[simp] theorem piRule_seq (s : State) : (piRule s).seq = s.seq := rfl
@[simp] theorem piRule_pfd (s : State) : (piRule s).pfd = s.pfd := rfl
@[simp] theorem piRule_lock (s : State) : (piRule s).lock = s.lock := rfl
@[simp] theorem piRule_mailbox (s : State) : (piRule s).mailbox = s.mailbox := rfl
@[simp] theorem piRule_sdm (s : State) : (piRule s).sdm = s.sdm := rfl
@[simp] theorem piRule_status (s : State) : (piRule s).status = s.status := rfl
@[simp] theorem piRule_mem (s : State) : (piRule s).mem = s.mem := rfl
@[simp] theorem piRule_lutEpoch (s : State) : (piRule s).lutEpoch = s.lutEpoch := rfl
@[simp] theorem piRule_inputs (s : State) : (piRule s).inputs = s.inputs := rfl
@[simp] theorem piRule_orderCount (s : State) : (piRule s).orderCount = s.orderCount := rfl
@[simp] theorem piRule_outputs (s : State) : (piRule s).outputs = s.outputs := rfl
@[simp] theorem piRule_readLog (s : State) : (piRule s).readLog = s.readLog := rfl

@[simp] theorem lutRule_params (s : State) : (lutRule s).params = s.params := rfl
@[simp] theorem lutRule_staging (s : State) : (lutRule s).staging = s.staging := rfl
@[simp] theorem lutRule_active (s : State) : (lutRule s).active = s.active := rfl
@[simp] theorem lutRule_derived (s : State) : (lutRule s).derived = s.derived := rfl
@[simp] theorem lutRule_seq (s : State) : (lutRule s).seq = s.seq := rfl
@[simp] theorem lutRule_pfd (s : State) : (lutRule s).pfd = s.pfd := rfl
@[simp] theorem lutRule_pi (s : State) : (lutRule s).pi = s.pi := rfl
@[simp] theorem lutRule_mailbox (s : State) : (lutRule s).mailbox = s.mailbox := rfl
@[simp] theorem lutRule_sdm (s : State) : (lutRule s).sdm = s.sdm := rfl
@[simp] theorem lutRule_status (s : State) : (lutRule s).status = s.status := rfl
@[simp] theorem lutRule_mem (s : State) : (lutRule s).mem = s.mem := rfl
@[simp] theorem lutRule_lutEpoch (s : State) : (lutRule s).lutEpoch = s.lutEpoch := rfl
@[simp] theorem lutRule_inputs (s : State) : (lutRule s).inputs = s.inputs := rfl
@[simp] theorem lutRule_orderCount (s : State) : (lutRule s).orderCount = s.orderCount := rfl
@[simp] theorem lutRule_outputs (s : State) : (lutRule s).outputs = s.outputs := rfl
@[simp] theorem lutRule_readLog (s : State) : (lutRule s).readLog = s.readLog := rfl

@[simp] theorem sdmTickRule_params (s : State) : (sdmTickRule s).params = s.params := by simp [sdmTickRule]
@[simp] theorem sdmTickRule_staging (s : State) : (sdmTickRule s).staging = s.staging := by simp [sdmTickRule]
@[simp] theorem sdmTickRule_active (s : State) : (sdmTickRule s).active = s.active := by simp [sdmTickRule]
@[simp] theorem sdmTickRule_derived (s : State) : (sdmTickRule s).derived = s.derived := by simp [sdmTickRule]
@[simp] theorem sdmTickRule_seq (s : State) : (sdmTickRule s).seq = s.seq := by simp [sdmTickRule]
@[simp] theorem sdmTickRule_pfd (s : State) : (sdmTickRule s).pfd = s.pfd := by simp [sdmTickRule]
@[simp] theorem sdmTickRule_pi (s : State) : (sdmTickRule s).pi = s.pi := by simp [sdmTickRule]
@[simp] theorem sdmTickRule_lock (s : State) : (sdmTickRule s).lock = s.lock := by simp [sdmTickRule]
@[simp] theorem sdmTickRule_status (s : State) : (sdmTickRule s).status = s.status := by simp [sdmTickRule]
@[simp] theorem sdmTickRule_mem (s : State) : (sdmTickRule s).mem = s.mem := by simp [sdmTickRule]
@[simp] theorem sdmTickRule_lutEpoch (s : State) : (sdmTickRule s).lutEpoch = s.lutEpoch := by simp [sdmTickRule]
@[simp] theorem sdmTickRule_inputs (s : State) : (sdmTickRule s).inputs = s.inputs := by simp [sdmTickRule]
@[simp] theorem sdmTickRule_orderCount (s : State) :
    (sdmTickRule s).orderCount = s.orderCount := by simp [sdmTickRule]
@[simp] theorem sdmTickRule_readLog (s : State) : (sdmTickRule s).readLog = s.readLog := by simp [sdmTickRule]

@[simp] theorem sampleRule_params (s : State) : (sampleRule s).params = s.params := by simp [sampleRule]
@[simp] theorem sampleRule_staging (s : State) : (sampleRule s).staging = s.staging := by simp [sampleRule]
@[simp] theorem sampleRule_active (s : State) : (sampleRule s).active = s.active := by simp [sampleRule]
@[simp] theorem sampleRule_derived (s : State) : (sampleRule s).derived = s.derived := by simp [sampleRule]
@[simp] theorem sampleRule_sdm (s : State) : (sampleRule s).sdm = s.sdm := by simp [sampleRule]
@[simp] theorem sampleRule_status (s : State) : (sampleRule s).status = s.status := by simp [sampleRule]
@[simp] theorem sampleRule_mem (s : State) : (sampleRule s).mem = s.mem := by simp [sampleRule]
@[simp] theorem sampleRule_lutEpoch (s : State) : (sampleRule s).lutEpoch = s.lutEpoch := by simp [sampleRule]
@[simp] theorem sampleRule_inputs (s : State) : (sampleRule s).inputs = s.inputs := by simp [sampleRule]
@[simp] theorem sampleRule_orderCount (s : State) : (sampleRule s).orderCount = s.orderCount := by simp [sampleRule]
@[simp] theorem sampleRule_readLog (s : State) : (sampleRule s).readLog = s.readLog := by simp [sampleRule]

end Sys2Proof.Machine
end

