-- ==== Sys2Proof/Laws/Exec.lean ====
section
/-!
SUPPORT. Everything one operation can do, said once: exec_elim proves a property of the state after any operation from the
few things an operation can be. exec answers a next state for every operation in every state.
-/

namespace Sys2Proof.Machine

theorem running_iff (s : State) : s.running = true ↔ s.status.fatal = false ∧ s.status.initialised = true := by
  simp [State.running]

/-- A command is ignored, rejected with an error code below CONFIG, or runs its rule. -/
theorem gate_elim {P : State → Prop} {c : Command} {rule : State → State} {s : State} (keep : P s)
    (error : ∀ code : BitVec 8, code.toNat ≤ 4 → P (s.raiseError code))
    (run : s.status.fatal = false → (needsInit c = true → s.status.initialised = true) →
      (needsSdmMode c = true → s.mode = true) → P (rule s)) : P (gate c rule s) := by
  rcases gate_cases c rule s with ⟨-, h⟩ | ⟨-, -, -, h⟩ | ⟨-, -, -, -, h⟩ | ⟨h1, h2, h3, h⟩ <;> rw [h]
  exacts [keep, error _ (by decide), error _ (by decide), run h1 h2 h3]

/-- What a legal command can do, whether issued by name or by a WRITE to CMD. -/
theorem runCommand_elim {P : State → Prop} {s : State} (c : Command) (keep : P s)
    (error : ∀ code : BitVec 8, code.toNat ≤ 4 → P (s.raiseError code))
    (init : s.status.fatal = false → P (initRule s))
    (sample : s.running = true → P (sampleRule s))
    (pfd : s.running = true → P (pfdRule s))
    (pi : s.running = true → P (piRule s))
    (lut : s.running = true → P (lutRule s))
    (publish : s.running = true → P (publishRule s))
    (sdmTick : s.running = true → s.mode = true → P (sdmTickRule s)) : P (runCommand c s) := by
  have run : ∀ {c rule}, needsInit c = true → (s.running = true → (needsSdmMode c = true → s.mode = true) → P (rule s)) →
      P (gate c rule s) := fun hc h => gate_elim keep error fun hf hi hm => h ((running_iff s).2 ⟨hf, hi hc⟩) hm
  cases c
  · exact gate_elim keep error fun _ _ _ => keep
  · exact gate_elim keep error fun hf _ _ => init hf
  · exact run rfl fun h _ => sample h
  · exact run rfl fun h _ => pfd h
  · exact run rfl fun h _ => pi h
  · exact run rfl fun h _ => lut h
  · exact run rfl fun h _ => publish h
  · exact run rfl fun h hm => sdmTick h (hm rfl)

theorem exec_instr (c : Command) (s : State) : exec c.instr s = .next (runCommand c s) := by cases c <;> rfl

theorem exec_next (i : Instr) (s : State) : ∃ t, exec i s = .next t := by cases i <;> exact ⟨_, rfl⟩

theorem ctrl_mask_reserved (d : Word) : d &&& 0x00001F03#32 &&& ~~~0x00001F03#32 = 0#32 := by
  rw [BitVec.and_assoc, show (0x00001F03#32 &&& ~~~0x00001F03#32) = 0#32 from rfl, BitVec.and_zero]

/-- What a WRITE of a word to CMD can do. -/
theorem execute_elim {P : State → Prop} {s : State} (w : Word) (keep : P s)
    (error : ∀ code : BitVec 8, code.toNat ≤ 4 → P (s.raiseError code))
    (command : ∀ c, decodeCommand w = .ok c → P (runCommand c s)) : P (execute w s) := by
  rcases execute_cases w s with ⟨c, hc, h⟩ | ⟨-, h⟩ | ⟨-, h⟩ <;> rw [h]
  exacts [command c hc, keep, error _ (by decide)]

/-- What a WRITE to a register can do, CMD apart. -/
theorem writeReg_elim {P : State → Prop} {s : State} (r : Reg) (d : Word) (clear : P s.clearError)
    (stage : ∀ g : Staging, (s.staging.ctrl &&& ~~~0x00001F03#32 = 0#32 → g.ctrl &&& ~~~0x00001F03#32 = 0#32) →
      P { s with staging := g })
    (hostRegs : ∀ g : HostRegs, P { s with host := g })
    (command : P (execute d s)) : P (writeReg r d s) := by
  cases r
  case ctrl => exact stage _ fun _ => ctrl_mask_reserved d
  case status => exact clear
  case cmd => exact command
  case arg0 => exact hostRegs _
  case arg1 => exact hostRegs _
  all_goals exact stage _ id

/-- Everything the machine's operations can do to a state, said once. -/
theorem exec_elim {P : State → Prop} {i : Instr} {s t : State} (h : exec i s = .next t) (keep : P s)
    (error : ∀ code : BitVec 8, code.toNat ≤ 4 → P (s.raiseError code))
    (read : ∀ w, P { s with readLog := s.readLog ++ [w] })
    (readRejected : P { s.raiseError errBus with readLog := s.readLog ++ [0#32] })
    (clear : P s.clearError)
    (stage : ∀ g : Staging, (s.staging.ctrl &&& ~~~0x00001F03#32 = 0#32 → g.ctrl &&& ~~~0x00001F03#32 = 0#32) →
      P { s with staging := g })
    (hostRegs : ∀ g : HostRegs, P { s with host := g })
    (lutWrite : ∀ i v, i < s.params.lutDepth → P (s.lutWrite i v))
    (init : s.status.fatal = false → P (initRule s))
    (sample : s.running = true → P (sampleRule s))
    (pfd : s.running = true → P (pfdRule s))
    (pi : s.running = true → P (piRule s))
    (lut : s.running = true → P (lutRule s))
    (publish : s.running = true → P (publishRule s))
    (sdmTick : s.running = true → s.mode = true → P (sdmTickRule s))
    (edge : ∀ m r, s.running = true → P (edgeStep m r s).2)
    (tick : s.running = true → s.mode = true → P (sdmStep s).2)
    (reset : P s.hardReset) : P t := by
  have cmd : ∀ c, P (runCommand c s) := fun c =>
    runCommand_elim c keep error init sample pfd pi lut publish sdmTick
  have byName : ∀ c : Command, exec c.instr s = .next t → P t := fun c hc => by
    rw [exec_instr] at hc; exact Host.Outcome.next.inj hc ▸ cmd c
  cases i
  case nop => exact byName .nop h
  case init => exact byName .init h
  case sample => exact byName .sample h
  case pfd => exact byName .pfd h
  case pi => exact byName .pi h
  case lut => exact byName .lut h
  case publish => exact byName .publish h
  case sdmTick => exact byName .sdmTick h
  case read a =>
    cases h
    rcases busRead_cases a s with ⟨l, -, h⟩ | ⟨-, h⟩ <;> rw [h]
    exacts [read _, readRejected]
  case write a d =>
    cases h
    rcases busWrite_cases a d s with ⟨r, -, h⟩ | ⟨i, hl, h⟩ | ⟨-, h⟩ <;> rw [h]
    · exact writeReg_elim r d clear stage hostRegs (execute_elim d keep error fun c _ => cmd c)
    · exact lutWrite _ _ (locate_lut hl).2
    · exact error _ (by decide)
  case edge m r =>
    cases h
    by_cases hr : s.running = true
    · simpa [edgeEvent, hr] using edge m r hr
    · simpa [edgeEvent, hr] using keep
  case tick =>
    cases h
    by_cases hr : s.running = true ∧ s.mode = true
    · simpa [tickEvent, hr] using tick hr.1 hr.2
    · have : (s.running && s.mode) = false := by cases h1 : s.running <;> cases h2 : s.mode <;> simp_all
      simpa [tickEvent, this] using keep
  case rst => cases h; exact reset

end Sys2Proof.Machine
end

