-- ==== Sys2Proof/Tests/Slice0.lean ====
section
/-!
SUPPORT. Tests of the model. Every expected value is one of spec/95_test_vectors.md (the section is named) or is written
out by hand from the rule named. The last part shows, for every statement with hypotheses, a concrete case that meets them.
-/

namespace Sys2Proof.Tests

open Sys2Proof Sys2Proof.Machine Sys2Proof.Spec

/-- The state after an operation. -/
def after (i : Instr) (s : State) : State :=
  match exec i s with
  | .next t => t
  | _ => s

/-- The staging registers of program P1 (95_test_vectors.md). -/
def loopStaging : Staging :=
  { State.reset.staging with
    kp := 0x10000#32, ki := 0x8000#32, loopRate := 2#32, pllRatio := 100#32, lutN := 8#32, nomIdx := 4#32,
    ppmRange := 100000#32 }

/-- The staging registers of the second row of the successful INIT vectors, 95_test_vectors.md 2.7. -/
def compStaging : Staging :=
  { State.reset.staging with
    ki := 0x00200000#32, loopRate := 512#32, pllRatio := 512#32, refInc := 100#32, lutN := 64#32, nomIdx := 32#32,
    ppmRange := 150#32 }

/-- SDM mode with CTRL as given and every sample a control update, the levels as given. -/
def sdmStaging (ctrl limits : Word) : Staging :=
  { loopStaging with ctrl := ctrl, loopRate := 1#32, ppmRange := 0xFFFFFF#32, sdmLimits := limits }

/-- A block after reset whose staging registers have been written. -/
def staged (g : Staging) : State := { State.reset with staging := g }

/-- A block after a successful INIT. -/
def initialised (g : Staging) : State := load (staged g)

/-- LUT[i] = 0x1000 + 0x10 i for i = 0..7. -/
def table (s : State) : State :=
  (List.range 8).foldl (fun t i => t.lutWrite i (BitVec.ofNat 16 (0x1000 + 0x10 * i))) s

/-- Program P1's block after INIT. -/
def looping : State := initialised loopStaging

/-- SDM mode, order 1, Q = 4, levels 0 to 15. -/
def ticking : State := initialised (sdmStaging 0x401#32 0x000F0000#32)

/-- SDM mode, order 2, Q = 4, every level. -/
def ticking2 : State := initialised (sdmStaging 0x403#32 0x7FFF8000#32)

/-- A state with ARG0 and ARG1 written. -/
def withArgs (s : State) (a b : Word) : State := { s with host := { s.host with arg0 := a, arg1 := b } }

/-- The fatal state a failed INIT leaves. -/
def failed : State := after .init State.reset

/-! ### Well-formedness: a command's word written to CMD is spelled as the command, any other word is not -/

theorem test_wellFormed_refuses_a_spelled_out_command : ¬ WellFormed (.write 0x048#20 3#32) := by decide
theorem test_wellFormed_refuses_the_last_command : ¬ WellFormed (.write 0x048#20 7#32) := by decide
theorem test_wellFormed_accepts_an_illegal_command_word : WellFormed (.write 0x048#20 8#32) := by decide
theorem test_wellFormed_accepts_another_register : WellFormed (.write 0x04C#20 3#32) := by decide

/-! ### Decoding: words written out bit by bit from 30_encoding.md R111-R118 -/

theorem test_decode_nop : decode (.bus 0b10000000000000000000000001001000#32 0b00#32) = .ok .nop := by decide
theorem test_decode_init : decode (.bus 0b10000000000000000000000001001000#32 0b01#32) = .ok .init := by decide
theorem test_decode_sample : decode (.bus 0b10000000000000000000000001001000#32 0b10#32) = .ok .sample := by decide
theorem test_decode_pfd : decode (.bus 0b10000000000000000000000001001000#32 0b11#32) = .ok .pfd := by decide
theorem test_decode_pi : decode (.bus 0b10000000000000000000000001001000#32 0b100#32) = .ok .pi := by decide
theorem test_decode_lut : decode (.bus 0b10000000000000000000000001001000#32 0b101#32) = .ok .lut := by decide
theorem test_decode_publish : decode (.bus 0b10000000000000000000000001001000#32 0b110#32) = .ok .publish := by decide
theorem test_decode_sdmTick : decode (.bus 0b10000000000000000000000001001000#32 0b111#32) = .ok .sdmTick := by decide
theorem test_decode_read :
    decode (.bus 0b00000000000001000000011111111100#32 0#32) = .ok (.read 0x407FC#20) := by decide
theorem test_decode_write :
    decode (.bus 0b10000000000000000000000000011100#32 4#32) = .ok (.write 0x01C#20 4#32) := by decide
theorem test_decode_edge :
    decode (.event 0b01#2 0b00010011100010000000000000000000#32) = .ok (.edge 5000#16 0#16) := by decide
theorem test_decode_tick : decode (.event 0b10#2 0b00#32) = .ok .tick := by decide
theorem test_decode_rst : decode .reset = .ok .rst := by decide
theorem test_decode_refuses_a_reserved_header :
    decode (.bus 0b01000000000000000000000001010100#32 0#32) = .error .reservedHeader := by decide
theorem test_decodeCommand_refuses_a_reserved_bit :
    decodeCommand 0b100000010#32 = .error .illegalCommand := by decide
theorem test_decodeCommand_refuses_the_ninth_code : decodeCommand 0b1000#32 = .error .illegalCommand := by decide
theorem test_decodeTableWord_pfd : decodeTableWord 32 0x00000003 = some .pfd := by decide
theorem test_decodeTableWord_read : decodeTableWord 32 0x00000054 = some (.read 0x054#20) := by decide
theorem test_decodeTableWord_write : decodeTableWord 32 0x80000000 = some (.write 0#20 0#32) := by decide
theorem test_decodeTableWord_tick : decodeTableWord 8 0x2 = some .tick := by decide
theorem test_step_runs_a_table_word :
    step (State.reset.withFetchWord 32 0x00000003) = .next (State.reset.raiseError errNotInit) := by rfl

/-! ### Helpers, 95_test_vectors.md 2.1 -/

theorem test_diff16_across_the_wrap : diff16 0x0002#16 0xFFFE#16 = 4 := by decide
theorem test_diff16_at_half_range : diff16 0x8000#16 0#16 = -32768 ∧ diff16 0#16 0x8000#16 = -32768 := by decide
theorem test_add16 : add16 0xFFF0#16 200 = 0x00B8#16 := by decide
theorem test_narrow32 : narrow32 (-70368744144896) = 32768 := by decide
theorem test_asr_floors : asr (-3) 1 = -2 ∧ asr (-98304) 16 = -2 := by decide
theorem test_mul64u_wraps : mul64u 1000 (-100) 1374389535 = 0xFFFF82FFFFFF92A0#64 := by decide
theorem test_qround_ties_upward : qround 8 4 = 1 ∧ qround (-8) 4 = 0 ∧ qround (-9) 4 = -1 := by decide

/-! ### One step of each operation -/

/-- 2.9: NOP does not clear ERR_CODE. -/
theorem test_nop_keeps_the_error :
    (after .nop (looping.raiseError errMode)).status = { looping.status with errCode := 0x03#8 } := by decide

/-- 2.7, first row of the successful INIT vectors. -/
theorem test_init_derives_the_registers :
    (after .init (staged loopStaging)).derived =
      { mclkExpInc := 200#32, refExpInc := 0#32, scaleNum := 0#64, maxDiff := 40#32, windup := 16#32 } := by decide

/-- 2.7: PLL_RATIO 8192 with LOOP_RATE 512 and REF_INC 1 fails check 6. -/
theorem test_init_reports_the_width_budget :
    (after .init (staged { loopStaging with
      loopRate := 512#32, pllRatio := 8192#32, refInc := 1#32, ki := 0#32, ppmRange := 0#32 })).statusWord =
      0x00060527#32 := by decide

/-- 2.6 and E7: the first control update of a decimated loop. -/
theorem test_sample_reports_the_first_update :
    (after .sample (after .sample (withArgs looping 1000#32 0#32))).host.result0 = 1#32 := by decide

/-- 2.6: before it SAMPLE only counts. -/
theorem test_sample_counts :
    (after .sample (withArgs looping 1000#32 0#32)).seq = { loopCounter := 1#32, firstLoop := true } := by decide

/-- 2.2, second row with compensation: pe = 9. -/
theorem test_pfd_scales_the_increment :
    (after .pfd (withArgs { initialised compStaging with
      pfd := { mclkLast := 5000#16, refLast := 1000#16, lastDiff := 0#16, resync := false } } 5060#32 52210#32)).pfd =
      { mclkLast := 5000#16, refLast := 52210#16, lastDiff := 9#16, resync := false } := by decide

/-- 2.2, fifth row without compensation: pe = -79 is beyond MD = 78. -/
theorem test_pfd_flags_a_desync :
    (after .pfd (withArgs { initialised { compStaging with refInc := 0#32 } with
      pfd := { mclkLast := 5000#16, refLast := 7#16, lastDiff := 0#16, resync := false } } 4921#32 0#32)).pfd =
      { mclkLast := 5000#16, refLast := 7#16, lastDiff := 0xFFB1#16, resync := true } := by decide

/-- 2.3, third row: the accumulator clamps at 16 and c = 13. -/
theorem test_pi_clamps_the_accumulator :
    (after .pi (withArgs { looping with pi := { accum := 14#32, lastControl := 0#32 } } 5#32 0#32)).pi =
      { accum := 16#32, lastControl := 13#32 } := by decide

/-- 2.3, second row: RESULT0 is the 32-bit pattern of c = -3. -/
theorem test_pi_returns_a_negative_control :
    (after .pi (withArgs { looping with pi := { accum := 3#32, lastControl := 0#32 } } 0x0000FFFD#32 0#32)).host.result0 =
      0xFFFFFFFD#32 := by decide

/-- 2.4, sixth row: the streak completes. -/
theorem test_lut_locks :
    (after .lut (withArgs { table looping with
      lock := { countdown := 0#32, status := unlockedHigh, currentValue := 0#16 } } 0#32 0#32)).lock =
      { countdown := 0#32, status := 0b00#2, currentValue := 0x1040#16 } := by decide

/-- 2.4, fourth row: an index of 8 with N = 8 is above the table. -/
theorem test_lut_saturates_high :
    (after .lut (withArgs (table looping) 0xFFFFFFFC#32 0#32)).host =
      { arg0 := 0xFFFFFFFC#32, arg1 := 0#32, result0 := 0x1070#32, result1 := 1#32 } := by decide

/-- 2.5: a second PUBLISH replaces the first. -/
theorem test_publish_replaces :
    (after .publish (withArgs (after .publish (withArgs ticking 24#32 0#32)) 8#32 0#32)).mailbox =
      { slot := 8#32, full := true } := by decide

/-- 2.5, first row: x = 40 gives the level 3 and the error -8. -/
theorem test_sdmTick_first_order :
    (after .sdmTick (ticking.send 40#32)).sdm =
      { hold := 40#32, e1 := 0xFFFFFFF8#32, e2 := 0#32, out := 3#16 } := by decide

/-- 2.5, third row of order 2: v = 32 from e1 = e2 = -8. -/
theorem test_tick_second_order :
    (after .tick { ticking2 with sdm := { hold := 40#32, e1 := 0xFFFFFFF8#32, e2 := 0xFFFFFFF8#32, out := 2#16 } }).sdm =
      { hold := 40#32, e1 := 0#32, e2 := 0xFFFFFFF8#32, out := 2#16 } := by decide

/-- 2.5, mailbox row 1 with the FracWrite of the level 3. -/
theorem test_tick_writes_the_synthesizer :
    (after .tick (ticking.send 40#32)).outputs = [.fracWrite 0x80000003#32] := by decide

/-- 2.8: RD STATUS after reset. -/
theorem test_read_status_after_reset : (after (.read 0x054#20) State.reset).readLog = [0x00000007#32] := by decide

/-- 2.8: a misaligned READ returns 0 and sets BUS, even in the fatal state (2.9). -/
theorem test_read_misaligned :
    (after (.read 0x049#20) failed).readLog = [0#32] ∧ (after (.read 0x049#20) failed).status.errCode = 0x04#8 := by
  decide

/-- 2.8: the reserved bits of CTRL stay 0. -/
theorem test_write_ctrl_masks : (after (.write 0x000#20 0xFFFFFFFF#32) State.reset).staging.ctrl = 0x1F03#32 := by decide

/-- 2.8: only the low half of the data word reaches LUT[0]. -/
theorem test_write_lut : (after (.write 0x40000#20 0xABCD1234#32) State.reset).lutRead 0 = 0x1234#16 := by decide

/-- P1, row 26: a jump of 50 beyond MD = 40 resyncs and pulses RESYNC_EVT. -/
theorem test_edge_resyncs :
    (after (.edge 1450#16 0#16) { looping with
      seq := { loopCounter := 1#32, firstLoop := false }
      pfd := { mclkLast := 1200#16, refLast := 0#16, lastDiff := 0#16, resync := false } }).outputs = [.resyncEvt] := by
  decide

/-- 2.3, first row, as a steady update: e = 3 gives c = 4, so the index 0 and its entry 0x1000. -/
theorem test_edge_steady :
    (after (.edge 1403#16 0#16) { table looping with
      seq := { loopCounter := 1#32, firstLoop := false }
      pfd := { mclkLast := 1200#16, refLast := 0#16, lastDiff := 0#16, resync := false } }).outputs =
      [.fracWrite 0x80001000#32] := by decide

/-- 10_state.md R73: the lock registers after a hardware reset of a locked block. -/
theorem test_rst_unlocks :
    (after .rst { looping with lock := { countdown := 0#32, status := locked, currentValue := 5#16 } }).lock =
      { countdown := 10#32, status := 0b11#2, currentValue := 0#16 } := by decide

/-! ### What the statements' hypotheses allow

One theorem for each statement with hypotheses: a state and operands that meet them all, at the boundaries of each clause. -/

/-- Inv of a state that INIT has just loaded, for a state whose fields can be evaluated. -/
theorem inv_of_fields {s : State}
    (h : s.params.Legal ∧ Memory.wf s.mem = true ∧ s.mem = [] ∧ s.staging.ctrl &&& ~~~0x00001F03#32 = 0#32 ∧
      s.active.ctrl &&& ~~~0x00001F03#32 = 0#32 ∧ s.wlim ≤ 2147483647 ∧
      s.seq.loopCounter.toNat < s.active.loopRate.toNat ∧ s.pi.accum = 0#32 ∧ s.lock.status = unlockedLow)
    (h' : s.sdm = { hold := 0, e1 := 0, e2 := 0, out := 0 } ∧
      s.status = { initialised := true, fatal := false, errCode := 0#8, cfgCause := 0#4 })
    (hc : Configured s) : Inv s := by
  obtain ⟨h1, h2, h3, h4, h5, h6, h7, h8, h9⟩ := h
  obtain ⟨h10, h11⟩ := h'
  refine ⟨h1, h2, ?_, h4, h5, h6, fun _ => h7, ?_, .inl h9, ?_, fun _ => .inr h10, ?_, ?_, ?_, fun _ => hc⟩
  · rw [h3]; intro c hc; cases hc
  · rw [h8]; simp
  · rw [h9]; intro h; exact absurd h (by decide)
  · rw [h11]; intro h; cases h
  · rw [h11]; decide
  · rw [h11]; decide

/-- P1's block after INIT meets the invariant: the case of StepKeepsTheInvariant, with the next state after a WRITE. -/
theorem looping_inv : Inv looping :=
  inv_of_fields (by decide) (by decide) ⟨by decide, by decide, by decide, by decide, by decide, by decide, by decide⟩

/-- A block with compensation enabled meets it. -/
theorem compensated_inv : Inv (initialised compStaging) :=
  inv_of_fields (by decide) (by decide) ⟨by decide, by decide, by decide, by decide, by decide, by decide, by decide⟩

/-- An arrival of an EDGE and a TICK at one instant. -/
def bothEvents : Arrival := { event := 0b11#2, payload := 0x17750000#32, bus := none, reset := false }

theorem test_witness_DecodeOfEncode_StepOnAnEncodedArrival :
    WellFormed (.write 0x048#20 8#32) ∧ WellFormed (.write 0x04C#20 7#32) ∧ WellFormed (.read 0xFFFFF#20) ∧
    WellFormed (.edge 0xFFFF#16 0#16) ∧ WellFormed .nop := by decide

theorem test_witness_BusDecoderReadsEveryField :
    ((0x00100000#32).toNat / 2 ^ 20) % 2 ^ 11 ≠ 0 ∧
    (((0x000FFFFF#32).toNat / 2 ^ 20) % 2 ^ 11 = 0 ∧ (0x000FFFFF#32).toNat < 2 ^ 31) ∧
    (((0x80000048#32).toNat / 2 ^ 20) % 2 ^ 11 = 0 ∧ 2 ^ 31 ≤ (0x80000048#32).toNat ∧ 8 ≤ (8#32).toNat) ∧
    (((0x8000004C#32).toNat / 2 ^ 20) % 2 ^ 11 = 0 ∧ (0x8000004C#32).toNat % 2 ^ 20 ≠ 0x48) ∧
    (7#32).toNat < 8 := by decide

theorem test_witness_StepRunsTheDecodedOperation :
    ({ State.reset with inputs := [arrivalOf (.event 0b10#2 0#32)] } : State).takeStimulus =
      some (.event 0b10#2 0#32, State.reset) ∧ decode (.event 0b10#2 0#32) = .ok .tick := by decide

theorem test_witness_SimultaneousEdgeAndTickGoEitherWay :
    ({ State.reset with inputs := [bothEvents] } : State).inputs =
      { event := 0b11#2, payload := 0x17750000#32, bus := none, reset := false } :: [] := by decide

theorem test_witness_ResetIsPerformedLast :
    ({ State.reset with inputs := [arrivalOf .reset] } : State).takeStimulus = some (.reset, State.reset) := by decide

theorem test_witness_LegalInputsNeverStop :
    ({ State.reset with inputs :=
        [bothEvents, arrivalOf (.bus 0x800FFFFF#32 0#32), arrivalOf (.event 0b00#2 0#32), arrivalOf .reset] } :
      State).inputsLegal = true := by decide

theorem test_witness_StepKeepsTheInvariant_BuildParametersNeverChange :
    Inv looping ∧ step looping = .next looping := ⟨looping_inv, rfl⟩

theorem test_witness_Diff16RotationAndAntisymmetry :
    (0x7FFF#16 - 0#16 : Half) ≠ 0x8000#16 ∧ (0x8000#16 - 0#16 : Half) = 0x8000#16 := by decide

theorem test_witness_SaturatingAccumulation :
    (0 : Int) ≤ 16 ∧ (-16 + -1 : Int) < -16 ∧ ((-16 : Int) ≤ -16 + 0 ∧ (-16 + 0 : Int) ≤ 16) ∧
    ((-16 : Int) ≤ 11 + 5 ∧ (11 + 5 : Int) ≤ 16) ∧ (16 : Int) < 12 + 5 := by decide

theorem test_witness_QuantizerTakesTheNearestLevel : 1 ≤ 1 ∧ 1 ≤ 31 := by decide

theorem test_witness_PfdCommand :
    Running (withArgs looping 0x00010005#32 0xFFFF0000#32) ∧
    5#16 = BitVec.ofNat 16 (withArgs looping 0x00010005#32 0xFFFF0000#32).host.arg0.toNat ∧
    0#16 = BitVec.ofNat 16 (withArgs looping 0x00010005#32 0xFFFF0000#32).host.arg1.toNat :=
  ⟨⟨rfl, rfl⟩, by decide, by decide⟩

theorem test_witness_RoundingBias :
    Inv (initialised compStaging) ∧ (initialised compStaging).status.initialised = true ∧
    (initialised compStaging).er ≠ 0 ∧
    (initialised compStaging).em * (initialised compStaging).er < 2 ^ (initialised compStaging).params.preDivBits ∧
    1 ≤ (initialised compStaging).em ∧
    ¬ (initialised compStaging).er ∣ 2 ^ (initialised compStaging).params.preDivBits :=
  ⟨compensated_inv, by decide, by decide, by decide, by decide, by decide⟩

theorem test_witness_AcceptedConfiguration :
    (staged compStaging).params.Legal ∧ (staged compStaging).status.fatal = false ∧
    exec .init (staged compStaging) = .next (after .init (staged compStaging)) ∧
    (after .init (staged compStaging)).status.fatal = false ∧ (after .init (staged compStaging)).er ≠ 0 ∧
    0 ≤ ((after .init (staged compStaging)).er : Int) + -32768 := 
  ⟨by decide, by decide, rfl, by decide, by decide, by decide⟩

theorem test_witness_PiCommand :
    Running (withArgs looping 0x00018000#32 0#32) ∧
    (-32768 : Int) = wrap 16 (withArgs looping 0x00018000#32 0#32).host.arg0.toNat ∧ looping.wlim ≤ 2147483647 :=
  ⟨⟨rfl, rfl⟩, by decide, by decide⟩

theorem test_witness_AccumulatorStays : looping.wlim ≤ 2147483647 := by decide

theorem test_witness_NarrowingNeverChanges :
    Inv looping ∧ looping.status.initialised = true ∧ looping.params.fracBits = 16 ∧
    ((-32768 : Int) ≤ -32768 ∧ (-32768 : Int) ≤ 32767) ∧ ((-32768 : Int) ≤ 32767 ∧ (32767 : Int) ≤ 32767) :=
  ⟨looping_inv, by decide, by decide, by decide, by decide⟩

theorem test_witness_LutCommand :
    Running (withArgs looping 0x80000000#32 0#32) ∧ 1 ≤ (withArgs looping 0x80000000#32 0#32).active.lutN.toNat ∧
    (-2147483648 : Int) = wrap 32 (withArgs looping 0x80000000#32 0#32).host.arg0.toNat :=
  ⟨⟨rfl, rfl⟩, by decide, by decide⟩

theorem test_witness_SelectionIsMonotone : 1 ≤ (initialised { loopStaging with lutN := 1#32, nomIdx := 0#32 }).active.lutN.toNat := by
  decide

theorem test_witness_LockNeedsAStreak :
    looping.lock.countdown = looping.params.lockCount ∧ looping.lock.status ≠ 0b00#2 ∧
    (∀ c ∈ [4, -3, 0, 0, 0, 0, 0, 0, 0, 0, 0], InRange looping c) ∧
    looping.params.lockCount.toNat + 1 ≤ [4, -3, 0, 0, 0, 0, 0, 0, 0, 0, (0 : Int)].length ∧
    [4, -3, 0, 0, 0, 0, 0, 0, 0, (0 : Int)].length ≤ looping.params.lockCount.toNat := by
  unfold InRange; decide

/-- A Locked block in LUT mode whose ARG0 selects below the table. -/
def aboutToUnlock : State :=
  withArgs { looping with lock := { countdown := 0#32, status := locked, currentValue := 0#16 } } 5#32 0#32

theorem test_witness_LeavingLocked :
    exec .lut aboutToUnlock = .next (after .lut aboutToUnlock) ∧ aboutToUnlock.lock.status = 0b00#2 ∧
    (after .lut aboutToUnlock).lock.status ≠ 0b00#2 := ⟨rfl, by decide, by decide⟩

theorem test_witness_Publish : Running ticking := ⟨rfl, rfl⟩

theorem test_witness_SdmTickCommand_TickEvent :
    (Running ticking ∧ ticking.mode = true) ∧ ¬ Running State.reset ∧ (Running looping ∧ looping.mode = false) :=
  ⟨⟨⟨rfl, rfl⟩, rfl⟩, fun h => absurd h.2 (by decide), ⟨rfl, rfl⟩, rfl⟩

/-- SDM mode, order 1, Q = 4, the input held at 40 (95_test_vectors.md E5). -/
def holding : State := { ticking with sdm := { hold := 40#32, e1 := 0xFFFFFFF8#32, e2 := 0#32, out := 3#16 } }

theorem test_witness_FirstOrder :
    Running holding ∧ holding.mode = true ∧ holding.sdmOrder = false ∧ holding.mailbox.full = false ∧
    ErrorInStep holding holding.sdm.e1 ∧ Unclamped 3 holding ∧
    (initialised (sdmStaging 0x001#32 0x7FFF8000#32)).sdmQbits = 0 := by
  refine ⟨⟨rfl, rfl⟩, rfl, rfl, rfl, ?_, ?_, by decide⟩
  · unfold ErrorInStep; decide
  · unfold Unclamped; decide

theorem test_witness_FirstOrder_init :
    (staged loopStaging).status.fatal = false ∧
    exec .init (staged loopStaging) = .next (after .init (staged loopStaging)) ∧
    (after .init (staged loopStaging)).status.fatal = false := ⟨by decide, rfl, by decide⟩

/-- SDM mode, order 2, the input held at 15, before tick 16 (95_test_vectors.md E5). -/
def holding2 : State :=
  { ticking2 with sdm := { hold := 15#32, e1 := 0xFFFFFFF8#32, e2 := 7#32, out := 2#16 } }

theorem test_witness_SecondOrder :
    Running holding2 ∧ holding2.mode = true ∧ holding2.sdmOrder = true ∧ holding2.mailbox.full = false ∧
    ErrorInStep holding2 holding2.sdm.e1 ∧ ErrorInStep holding2 holding2.sdm.e2 ∧ Unclamped 2 holding2 := by
  refine ⟨⟨rfl, rfl⟩, rfl, rfl, rfl, ?_, ?_, ?_⟩
  · unfold ErrorInStep; decide
  · unfold ErrorInStep; decide
  · unfold Unclamped; decide

/-- E5: over the window of ticks 16 and 17 the deviation is -30, the bound of order 2. -/
theorem test_second_order_reaches_its_bound : (runTicks 2 holding2).1 * 16 - 2 * 15 = -30 := by decide

theorem test_witness_ModulatorReadsOnlyItsOwnState :
    (withArgs holding 1#32 2#32).mailbox = holding.mailbox ∧ (withArgs holding 1#32 2#32).sdm = holding.sdm ∧
    (withArgs holding 1#32 2#32).active.ctrl = holding.active.ctrl ∧
    (withArgs holding 1#32 2#32).active.sdmLimits = holding.active.sdmLimits ∧
    (withArgs holding 1#32 2#32).status = holding.status ∧ exec .tick holding = .next (after .tick holding) ∧
    exec .tick (withArgs holding 1#32 2#32) = .next (after .tick (withArgs holding 1#32 2#32)) :=
  ⟨rfl, rfl, rfl, rfl, rfl, rfl, rfl⟩

/-- SDM mode with the next edge a steady update. -/
def steadySdm : State := { ticking with seq := { loopCounter := 0#32, firstLoop := false } }

theorem test_witness_AgentsShareOnlyTheMailbox :
    exec .tick holding = .next (after .tick holding) ∧
    exec (.edge 103#16 0#16) steadySdm = .next (after (.edge 103#16 0#16) steadySdm) ∧
    (after (.edge 103#16 0#16) steadySdm).mailbox ≠ steadySdm.mailbox := ⟨rfl, rfl, by decide⟩

theorem test_witness_EdgeBeforeTheUpdate_Decimation :
    Running looping ∧ looping.seq.loopCounter.toNat + 1 < looping.active.loopRate.toNat ∧
    looping.seq.loopCounter.toNat + [(1#16, (0#16 : Half))].length < looping.active.loopRate.toNat :=
  ⟨⟨rfl, rfl⟩, by decide, by decide⟩

/-- LUT mode with the next edge a control update. -/
def due (first : Bool) : State :=
  { looping with seq := { loopCounter := 1#32, firstLoop := first }, pfd := { looping.pfd with mclkLast := 1200#16 } }

theorem test_witness_FirstLoopUpdate : Running (due true) ∧ UpdateDue (due true) ∧ (due true).seq.firstLoop = true :=
  ⟨⟨rfl, rfl⟩, rfl, rfl⟩

theorem test_witness_ResyncUpdate :
    Running (due false) ∧ UpdateDue (due false) ∧ (due false).seq.firstLoop = false ∧
    desync (due false) 1441#16 0#16 = true := ⟨⟨rfl, rfl⟩, rfl, rfl, by decide⟩

theorem test_witness_SteadyUpdateInLutMode :
    Running (due false) ∧ UpdateDue (due false) ∧ (due false).seq.firstLoop = false ∧ (due false).mode = false ∧
    desync (due false) 1440#16 0#16 = false ∧ 1 ≤ (due false).active.lutN.toNat ∧
    48 = controlSignal (due false) (phaseError (due false) 1440#16 0#16) :=
  ⟨⟨rfl, rfl⟩, rfl, rfl, rfl, by decide, by decide, by decide⟩

theorem test_witness_SteadyUpdateInSdmMode :
    Running steadySdm ∧ UpdateDue steadySdm ∧ steadySdm.seq.firstLoop = false ∧ steadySdm.mode = true ∧
    desync steadySdm 103#16 0#16 = false := ⟨⟨rfl, rfl⟩, rfl, rfl, rfl, by decide⟩

theorem test_witness_SampleIsAnEdge :
    (Running looping ∧ looping.seq.loopCounter.toNat < looping.active.loopRate.toNat) ∧
    (Running (due false) ∧ (due false).seq.loopCounter.toNat < (due false).active.loopRate.toNat) :=
  ⟨⟨⟨rfl, rfl⟩, by decide⟩, ⟨rfl, rfl⟩, by decide⟩

theorem test_witness_InitLoads :
    (staged compStaging).params.Legal ∧ (staged compStaging).status.fatal = false ∧
    ∀ k, ¬ checkFails (staged compStaging).staging (staged compStaging).params k := by
  refine ⟨by decide, by decide, fun k => ?_⟩
  match k with
  | 0 => exact id
  | 1 | 2 | 3 | 4 | 5 | 6 | 7 | 8 | 9 => simp only [checkFails]; decide
  | n + 10 => exact id

theorem test_witness_InitReports :
    (State.reset.status.fatal = false ∧ checkFails State.reset.staging State.reset.params 1) ∧
    (∀ j, j < 1 → ¬ checkFails State.reset.staging State.reset.params j) ∧
    checkFails { loopStaging with sdmLimits := 1#32 } Params.default 9 := by
  refine ⟨⟨by decide, by simp only [checkFails]; decide⟩, fun j hj => ?_, by simp only [checkFails]; decide⟩
  obtain rfl : j = 0 := by omega
  exact id

theorem test_witness_IllegalCommandWord :
    (0x08 ≤ (8#32).toNat % 2 ^ 8 ∧ (0x100#32).toNat / 2 ^ 8 ≠ 0) ∧ looping.status.fatal = false ∧
    failed.status.fatal = true := by decide

theorem test_witness_DatapathCommandsNeedInit :
    State.reset.status.fatal = false ∧ State.reset.status.initialised = false ∧ Command.sample ≠ .nop ∧
    Command.sample ≠ .init := by decide

theorem test_witness_SdmTickNeedsSdmMode : Running looping ∧ looping.mode = false ∧ Command.init ≠ .sdmTick :=
  ⟨⟨rfl, rfl⟩, rfl, by decide⟩

theorem test_witness_OnlyResetLeavesTheFatalState :
    failed.status.fatal = true ∧ Instr.tick ≠ .rst ∧ datapathOnly .tick = true ∧ Instr.read 0x049#20 ≠ .rst := by decide

theorem test_witness_ReadReturnsTheRegisterView :
    (0x000, State.reset.staging.ctrl) ∈ readMap State.reset ∧
    (0x0F0, BitVec.ofNat 32 State.reset.sdm.out.toNat) ∈ readMap State.reset := by
  constructor <;> simp [readMap]

theorem test_witness_RejectedTransaction :
    State.reset.params.Legal ∧ Rejected State.reset 0x049#20 ∧ Rejected State.reset 0x0F4#20 ∧
    Rejected State.reset 0x40800#20 ∧ ¬ Rejected State.reset 0x407FC#20 := by
  unfold Rejected; decide

theorem test_witness_LutWindow : State.reset.params.Legal ∧ 511 < State.reset.params.lutDepth ∧ (510 : Nat) ≠ 511 := by decide

theorem test_witness_WriteReaches : 0x04C ∈ readOnlyOffsets ∧ 0x0F0 ∈ readOnlyOffsets := by decide

theorem test_witness_OnlyInitAndReset :
    exec .init (staged loopStaging) = .next (after .init (staged loopStaging)) ∧
    (after .init (staged loopStaging)).active ≠ (staged loopStaging).active := ⟨rfl, by decide⟩

theorem test_witness_StagingIsInvisible :
    datapathOnly (.edge 1#16 2#16) = true ∧
    exec (.edge 1#16 2#16) looping = .next (after (.edge 1#16 2#16) looping) := ⟨rfl, rfl⟩

theorem test_witness_OnlyTheLutWindowAndReset :
    exec (.write 0x407FC#20 7#32) looping = .next (after (.write 0x407FC#20 7#32) looping) ∧
    Instr.write 0x407FC#20 7#32 ≠ .rst ∧
    exec (.write 0x3FFFC#20 7#32) looping = .next (after (.write 0x3FFFC#20 7#32) looping) ∧
    (0x3FFFC#20).toNat < 0x40000 ∧ (0x407FB : Nat) ≠ (0x407FC#20).toNat ∧ (0x407FE : Nat) ≠ (0x407FC#20).toNat + 1 :=
  ⟨rfl, by decide, rfl, by decide, by decide, by decide⟩

theorem test_witness_AnOperationEmitsAtMostOneOutput :
    exec .tick holding = .next (after .tick holding) ∧ (after .tick holding).outputs ≠ holding.outputs :=
  ⟨rfl, by decide⟩

end Sys2Proof.Tests
end

section
/-!
PROOFS. The scope of a step: what TICK and EDGE share (spec/60_exceptions.md R319, spec/00_scope.md R25), and the build-time
parameters (R8-R12). Frames go through the field lemmas of Laws/State.lean and Laws/Ops.lean.
-/

namespace Sys2Proof.Machine

/-! ### States and stimuli -/

@[ext] theorem State.ext {s t : State} (params : s.params = t.params) (staging : s.staging = t.staging)
    (host : s.host = t.host) (active : s.active = t.active) (derived : s.derived = t.derived) (seq : s.seq = t.seq)
    (pfd : s.pfd = t.pfd) (pi : s.pi = t.pi) (lock : s.lock = t.lock) (mailbox : s.mailbox = t.mailbox)
    (sdm : s.sdm = t.sdm) (status : s.status = t.status) (mem : s.mem = t.mem) (lutEpoch : s.lutEpoch = t.lutEpoch)
    (inputs : s.inputs = t.inputs) (orderCount : s.orderCount = t.orderCount) (outputs : s.outputs = t.outputs)
    (readLog : s.readLog = t.readLog) : s = t := by
  cases s; cases t; simp_all

/-- Taking a stimulus uses up inputs and counts a choice; no element of the block changes. -/
theorem takeStimulus_frame {s t : State} {st : Stimulus} (h : s.takeStimulus = some (st, t)) :
    t = { s with inputs := t.inputs, orderCount := t.orderCount } := by
  unfold State.takeStimulus at h
  split at h
  · cases h
  · split at h <;> cases h <;> rfl

/-- A step that answers a state idles, or performs the operation of the stimulus it takes. -/
theorem step_cases {s t : State} (h : step s = .next t) :
    (s.takeStimulus = none ∧ t = s.idle) ∨
    ∃ st u i, s.takeStimulus = some (st, u) ∧ decode st = .ok i ∧ exec i u = .next t := by
  unfold step at h
  split at h
  · next hs => cases h; exact .inl ⟨hs, rfl⟩
  · next st u hs =>
    split at h
    · next i hd => exact .inr ⟨st, u, i, hs, hd, h⟩
    · cases h

/-! ### The build-time parameters -/

theorem initRule_params (s : State) : (initRule s).params = s.params := by
  rcases initRule_cases s with ⟨-, h⟩ | ⟨-, h⟩ <;> simp [h]

theorem exec_params {i : Instr} {s t : State} (h : exec i s = .next t) : t.params = s.params := by
  refine exec_elim (P := fun u => u.params = s.params) h ?keep ?error ?read ?readRejected ?clear ?stage ?hostRegs
    ?lutWrite ?init ?sample ?pfd ?pi ?lut ?publish ?sdmTick ?edge ?tick ?reset
  case init => exact fun _ => initRule_params s
  all_goals simp

/-- Settles O59: the operation performed keeps the parameters, and so does taking its stimulus or idling. -/
theorem buildParametersNeverChange : Obligations.BuildParametersNeverChange := by
  intro s t h
  rcases step_cases h with ⟨-, rfl⟩ | ⟨st, u, i, hs, -, hx⟩
  · exact State.idle_params s
  · calc t.params = u.params := exec_params hx
      _ = s.params := by rw [takeStimulus_frame hs]

/-! ### The two agents and the mailbox -/

/-- The TICK event is ignored, or performs a modulator step. -/
theorem tickEvent_cases (s : State) :
    tickEvent s = s ∨ (s.running = true ∧ s.mode = true ∧ tickEvent s = (sdmStep s).2) := by
  unfold tickEvent
  split <;> simp_all

/-- The EDGE event is ignored, or performs a sequencer step. -/
theorem edgeEvent_cases (m r : Half) (s : State) :
    edgeEvent m r s = s ∨ (s.running = true ∧ edgeEvent m r s = (edgeStep m r s).2) := by
  unfold edgeEvent
  split <;> simp_all

/-- The receive clears the full bit only, R228. -/
@[simp] theorem receive_slot (s : State) : s.receive.mailbox.slot = s.mailbox.slot := by
  unfold State.receive
  split <;> rfl

@[simp] theorem sdmStep_slot (s : State) : (sdmStep s).2.mailbox.slot = s.mailbox.slot := by simp [sdmStep]

/-- What a modulator step may write. -/
theorem sdmStep_frame (s : State) :
    (sdmStep s).2 =
      { s with mailbox := (sdmStep s).2.mailbox, sdm := (sdmStep s).2.sdm, outputs := (sdmStep s).2.outputs } := by
  ext1 <;> simp

/-- What a sequencer step may write. -/
theorem edgeStep_frame (m r : Half) (s : State) :
    (edgeStep m r s).2 =
      { s with
        seq := (edgeStep m r s).2.seq, pfd := (edgeStep m r s).2.pfd, pi := (edgeStep m r s).2.pi
        lock := (edgeStep m r s).2.lock, mailbox := (edgeStep m r s).2.mailbox
        outputs := (edgeStep m r s).2.outputs } := by
  ext1 <;> simp

theorem drive_mailbox_of_lutMode {c : Int} {s : State} (h : s.mode = false) : (drive c s).mailbox = s.mailbox := by
  simp [drive_of_lutMode h]

theorem actuate_mailbox_of_lutMode {m : Half} {pe : Int} {s : State} (h : s.mode = false) :
    (actuate m pe s).mailbox = s.mailbox :=
  drive_mailbox_of_lutMode (s := (piFunction pe s).2) h

/-- A control update sends to the mailbox only if it is a steady one in SDM mode, R254. -/
theorem controlUpdate_sends {m r : Half} {s : State} (h : (controlUpdate m r s).2.mailbox ≠ s.mailbox) :
    s.mode = true ∧ s.seq.firstLoop = false ∧ (controlUpdate m r s).2.seq.firstLoop = false := by
  rcases controlUpdate_cases m r s with ⟨-, hu⟩ | ⟨-, -, hu⟩ | ⟨hf, -, hu⟩ <;> rw [hu] at h ⊢
  case inl => exact absurd rfl h
  case inr.inl => exact absurd rfl h
  case inr.inr =>
    refine ⟨?_, hf, by simpa using hf⟩
    by_contra hm
    exact h (actuate_mailbox_of_lutMode (s := (pfdFunction m r s).2) (Bool.eq_false_iff.2 hm))

/-- An edge sends to the mailbox only through its control update, R250. -/
theorem edgeStep_sends {m r : Half} {s : State} (h : (edgeStep m r s).2.mailbox ≠ s.mailbox) :
    s.mode = true ∧ s.seq.firstLoop = false ∧ (edgeStep m r s).2.seq.firstLoop = false := by
  rcases edgeStep_cases m r s with ⟨-, hs⟩ | ⟨-, hs⟩ <;> rw [hs] at h ⊢
  · exact absurd rfl h
  · exact controlUpdate_sends h

/-- Settles O34: an event is ignored or performs its step, whose frame and mailbox rule the lemmas above say. -/
theorem agentsShareOnlyTheMailbox : Obligations.AgentsShareOnlyTheMailbox := by
  constructor
  · intro s t h
    obtain rfl : tickEvent s = t := Host.Outcome.next.inj h
    rcases tickEvent_cases s with ht | ⟨-, -, ht⟩ <;> rw [ht]
    · exact ⟨rfl, rfl⟩
    · exact ⟨sdmStep_frame s, sdmStep_slot s⟩
  · intro s t m r h
    obtain rfl : edgeEvent m r s = t := Host.Outcome.next.inj h
    rcases edgeEvent_cases m r s with he | ⟨-, he⟩ <;> rw [he]
    · exact ⟨rfl, fun hne => absurd rfl hne⟩
    · exact ⟨edgeStep_frame m r s, edgeStep_sends⟩

end Sys2Proof.Machine
end

section
/-!
PROOFS. The invariant of spec/10_state.md R72: it holds after hardware reset, and every operation keeps it. Each unit of the
datapath keeps it on its own, so the sequencer's updates, which compose the units, need no argument of their own.
-/

namespace Sys2Proof.Machine

/-! ### What the invariant reads -/

/-- An accepted configuration is one of the parameters and the configuration registers alone. -/
theorem Configured.congr {s t : State} (h : Configured s) (params : t.params = s.params)
    (active : t.active = s.active) (derived : t.derived = s.derived) : Configured t := by
  cases s; cases t
  cases params; cases active; cases derived
  exact { h with }

/-- The elements a state may change in without a word about the invariant are those it does not read. -/
theorem Inv.congr {s t : State} (h : Inv s) (params : t.params = s.params) (mem : t.mem = s.mem)
    (staging : t.staging = s.staging) (active : t.active = s.active) (derived : t.derived = s.derived)
    (seq : t.seq.loopCounter = s.seq.loopCounter) (pi : t.pi = s.pi) (lock : t.lock = s.lock)
    (sdm : t.sdm = s.sdm) (status : t.status = s.status) : Inv t := by
  have counter : t.status.initialised = true → t.seq.loopCounter.toNat < t.active.loopRate.toNat := by
    rw [seq, active, status]
    exact h.counterBelowRate
  have config : t.status.initialised = true → Configured t := fun hi =>
    (h.configured (status ▸ hi)).congr params active derived
  cases s; cases t
  cases params; cases mem; cases staging; cases active; cases derived; cases pi; cases lock; cases sdm; cases status
  exact { h with counterBelowRate := counter, configured := config }

/-! ### Values that fit their registers -/

theorem clamp_mem {x lo hi : Int} (h : lo ≤ hi) : lo ≤ clamp x lo hi ∧ clamp x lo hi ≤ hi := by
  unfold clamp
  omega

/-- A value of a signed n-bit register reads back. -/
theorem toInt_ofInt_of_mem {n : Nat} {x : Int} (lo : -2 ^ (n - 1) ≤ x) (hi : x < 2 ^ (n - 1)) (hn : 0 < n) :
    (BitVec.ofInt n x).toInt = x := by
  obtain ⟨m, rfl⟩ : ∃ m, n = m + 1 := ⟨n - 1, by omega⟩
  rw [BitVec.toInt_ofInt]
  simp only [Nat.add_sub_cancel] at lo hi
  apply Int.bmod_eq_of_le <;> push_cast <;> rw [pow_succ] <;> omega

/-! ### The units of the datapath -/

theorem pfdFunction_inv {m r : Half} {s : State} (h : Inv s) : Inv (pfdFunction m r s).2 :=
  h.congr rfl rfl rfl rfl rfl rfl rfl rfl rfl rfl

/-- R181: the accumulator is clamped to the windup limit, which fits the register. -/
theorem piFunction_accum {e : Int} {s : State} (h : s.wlim ≤ 2147483647) :
    -(s.wlim : Int) ≤ (piFunction e s).2.pi.accum.toInt ∧ (piFunction e s).2.pi.accum.toInt ≤ s.wlim := by
  have hc : -(s.wlim : Int) ≤ satAcc s.pi.accum.toInt e s.wlim ∧ satAcc s.pi.accum.toInt e s.wlim ≤ s.wlim :=
    clamp_mem (by omega)
  have ha : (piFunction e s).2.pi.accum.toInt = satAcc s.pi.accum.toInt e s.wlim :=
    toInt_ofInt_of_mem (by omega) (by omega) (by omega)
  rwa [ha]

/-- ACCUM may take any value within the windup limit. -/
theorem pi_inv {s : State} (h : Inv s) {p : PiState}
    (hp : -(s.wlim : Int) ≤ p.accum.toInt ∧ p.accum.toInt ≤ s.wlim) : Inv { s with pi := p } :=
  { h with
    accumBound := hp
    configured := fun hi => (h.configured hi).congr rfl rfl rfl }

theorem piFunction_inv {e : Int} {s : State} (h : Inv s) : Inv (piFunction e s).2 :=
  pi_inv h (piFunction_accum h.windupBound)

theorem unlockedLow_ne_locked : unlockedLow ≠ locked := by decide

theorem unlockedHigh_ne_locked : unlockedHigh ≠ locked := by decide

/-- The lock state machine, R202-R204: leave the lock, reach it, or count toward it. -/
theorem lockNext_cases (s : State) (c : Int) (v : Half) :
    s.lockNext c v = { countdown := s.params.lockCount, status := unlockedLow, currentValue := v } ∨
    s.lockNext c v = { countdown := s.params.lockCount, status := unlockedHigh, currentValue := v } ∨
    (s.lock.countdown = 0#32 ∧ s.lockNext c v = { s.lock with status := locked, currentValue := v }) ∨
    (s.lock.countdown ≠ 0#32 ∧
      s.lockNext c v = { s.lock with countdown := s.lock.countdown - 1#32, currentValue := v }) := by
  unfold State.lockNext
  split
  · exact .inl rfl
  · split
    · exact .inr (.inl rfl)
    · split
      · next h0 => exact .inr (.inr (.inl ⟨h0, rfl⟩))
      · next h0 => exact .inr (.inr (.inr ⟨h0, rfl⟩))

/-- R47: a selection writes no other lock code. -/
theorem lockNext_code {s : State} (c : Int) (v : Half)
    (h : s.lock.status = unlockedLow ∨ s.lock.status = locked ∨ s.lock.status = unlockedHigh) :
    (s.lockNext c v).status = unlockedLow ∨ (s.lockNext c v).status = locked ∨
      (s.lockNext c v).status = unlockedHigh := by
  rcases lockNext_cases s c v with hn | hn | ⟨-, hn⟩ | ⟨-, hn⟩ <;> rw [hn]
  exacts [.inl rfl, .inr (.inr rfl), .inr (.inl rfl), h]

/-- R72 (iv): the countdown runs only while unlocked, and Locked is entered only when it has run out. -/
theorem lockNext_locked {s : State} {c : Int} {v : Half} (h : s.lock.status = locked → s.lock.countdown = 0#32) :
    (s.lockNext c v).status = locked → (s.lockNext c v).countdown = 0#32 := by
  rcases lockNext_cases s c v with hn | hn | ⟨h0, hn⟩ | ⟨h0, hn⟩ <;> rw [hn] <;> intro hl
  · exact absurd hl unlockedLow_ne_locked
  · exact absurd hl unlockedHigh_ne_locked
  · exact h0
  · exact absurd (h hl) h0

theorem lutFunction_inv {c : Int} {s : State} (h : Inv s) : Inv (lutFunction c s).2 :=
  { h with
    lockCodeLegal := lockNext_code c _ h.lockCodeLegal
    lockedMeansZero := lockNext_locked h.lockedMeansZero
    configured := fun hi => (h.configured hi).congr rfl rfl rfl }

theorem send_inv {w : Word} {s : State} (h : Inv s) : Inv (s.send w) :=
  h.congr rfl rfl rfl rfl rfl rfl rfl rfl rfl rfl

theorem emitFrac_inv {v : Half} {s : State} (h : Inv s) : Inv (s.emitFrac v) :=
  h.congr rfl rfl rfl rfl rfl rfl rfl rfl rfl rfl

theorem drive_inv {c : Int} {s : State} (h : Inv s) : Inv (drive c s) := by
  cases hm : s.mode with
  | true => exact drive_of_sdmMode hm ▸ send_inv h
  | false => exact drive_of_lutMode hm ▸ emitFrac_inv (lutFunction_inv h)

/-- R229: the level a modulator step stores is clamped to [LO, HI], which fits the register. -/
theorem sdmStep_level {s : State} (h : s.outMin ≤ s.outMax) :
    s.outMin ≤ (sdmStep s).2.sdm.out.toInt ∧ (sdmStep s).2.sdm.out.toInt ≤ s.outMax := by
  have hy : s.outMin ≤ (sdmStep s).1 ∧ (sdmStep s).1 ≤ s.outMax := by
    simpa [State.outMin, State.outMax, sdmStep, State.sdmLevel] using clamp_mem h
  have hlo : -32768 ≤ s.outMin := BitVec.le_toInt _
  have hhi : s.outMax < 32768 := BitVec.toInt_lt
  have ho : (sdmStep s).2.sdm.out.toInt = (sdmStep s).1 :=
    toInt_ofInt_of_mem (x := (sdmStep s).1) (by omega) (by omega) (by omega)
  rwa [ho]

theorem sdmStep_inv {s : State} (h : Inv s) (hr : s.running = true) : Inv (sdmStep s).2 := by
  have hc : Configured s := h.configured ((running_iff s).1 hr).2
  rw [sdmStep_frame]
  exact { h with
    levelInRange := fun _ => .inl (sdmStep_level hc.levelRange)
    configured := fun _ => hc.congr rfl rfl rfl }

/-! ### The sequencer -/

/-- R252: the accumulator is cleared and the lock state is unlocked. -/
theorem firstLoopUpdate_inv {m r : Half} {s : State} (h : Inv s) : Inv (firstLoopUpdate m r s) :=
  { h with
    accumBound := by simp [firstLoopUpdate, State.wlim]
    lockCodeLegal := .inl rfl
    lockedMeansZero := fun hl => absurd hl unlockedLow_ne_locked
    configured := fun hi => (h.configured hi).congr rfl rfl rfl }

theorem resyncAction_inv {m : Half} {s : State} (h : Inv s) : Inv (resyncAction m s) :=
  h.congr rfl rfl rfl rfl rfl rfl rfl rfl rfl rfl

theorem actuate_inv {m : Half} {pe : Int} {s : State} (h : Inv s) : Inv (actuate m pe s) :=
  (drive_inv (piFunction_inv h)).congr rfl rfl rfl rfl rfl rfl rfl rfl rfl rfl

theorem controlUpdate_inv {m r : Half} {s : State} (h : Inv s) : Inv (controlUpdate m r s).2 := by
  rcases controlUpdate_cases m r s with ⟨-, hu⟩ | ⟨-, -, hu⟩ | ⟨-, -, hu⟩ <;> rw [hu]
  · exact firstLoopUpdate_inv h
  · exact resyncAction_inv (pfdFunction_inv h)
  · exact actuate_inv (pfdFunction_inv h)

/-- LOOP_COUNTER may take any value below A_LOOP_RATE. -/
theorem counter_inv {s : State} (h : Inv s) {n : Word} (hn : n.toNat < s.active.loopRate.toNat) :
    Inv { s with seq := { s.seq with loopCounter := n } } :=
  { h with
    counterBelowRate := fun _ => hn
    configured := fun hi => (h.configured hi).congr rfl rfl rfl }

/-- R250: an edge counts up to A_LOOP_RATE and starts again, so LOOP_COUNTER stays below it (R72 (i)). -/
theorem edgeStep_inv {m r : Half} {s : State} (h : Inv s) (hr : s.running = true) : Inv (edgeStep m r s).2 := by
  have hlt := h.counterBelowRate ((running_iff s).1 hr).2
  rcases edgeStep_cases m r s with ⟨hne, hs⟩ | ⟨-, hs⟩ <;> rw [hs]
  · exact counter_inv h (by bv_omega)
  · exact controlUpdate_inv (counter_inv h (by simp; omega))

/-! ### Memory, errors and results -/

theorem hostRegs_inv {s : State} (h : Inv s) (g : HostRegs) : Inv { s with host := g } :=
  h.congr rfl rfl rfl rfl rfl rfl rfl rfl rfl rfl

theorem errCode_inv {s : State} (h : Inv s) {code : BitVec 8} (hc : code.toNat ≤ 5) :
    Inv { s with status := { s.status with errCode := code } } :=
  { h with
    errorCodeLegal := hc
    configured := fun hi => (h.configured hi).congr rfl rfl rfl }

theorem staging_inv {s : State} (h : Inv s) {g : Staging} (hg : g.ctrl &&& ~~~0x00001F03#32 = 0#32) :
    Inv { s with staging := g } :=
  { h with
    ctrlReserved := hg
    configured := fun hi => (h.configured hi).congr rfl rfl rfl }

/-- A write to a LUT entry lists its two bytes, which lie in the window. -/
theorem lutWrite_inside {s : State} {i : Nat} {v : Half} (hi : i < s.params.lutDepth)
    (h : ∀ c ∈ s.mem, 0x40000 ≤ c.1 ∧ c.1 < 0x40000 + 4 * s.params.lutDepth ∧ c.1 % 4 < 2) :
    ∀ c ∈ (s.lutWrite i v).mem, 0x40000 ≤ c.1 ∧ c.1 < 0x40000 + 4 * s.params.lutDepth ∧ c.1 % 4 < 2 := by
  intro c hc
  rcases Memory.mem_store hc with rfl | hc
  · simp only [lutAddr]; omega
  · rcases Memory.mem_store hc with rfl | hc
    · simp only [lutAddr]; omega
    · exact h c hc

theorem lutWrite_inv {s : State} (h : Inv s) {i : Nat} (v : Half) (hi : i < s.params.lutDepth) :
    Inv (s.lutWrite i v) :=
  { h with
    memoryCanonical := Memory.wf_lutWrite i v h.memoryCanonical
    memoryInside := lutWrite_inside hi h.memoryInside
    configured := fun hs => (h.configured hs).congr rfl rfl rfl }

/-! ### INIT and hardware reset -/

/-- What the staging registers satisfy when no check of INIT fails, R271. -/
structure Accepted (g : Staging) (p : Params) : Prop where
  loopRate : g.loopRate.toNat ≠ 0
  lutLength : 1 ≤ g.lutN.toNat ∧ g.lutN.toNat ≤ p.lutDepth
  nominalInTable : g.nomIdx.toNat < g.lutN.toNat
  integralGainNonneg : 0 ≤ g.ki.toInt
  incrementsFit : g.em < 4294967296 ∧ g.er < 4294967296
  widthBudget : g.er ≠ 0 → g.em * (g.er + 32767) * g.scaleNum p < 18446744073709551616
  maxDiffFits : g.maxDiff < 4294967296
  windupFits : 0 < g.ki.toInt → g.windup p ≤ 2147483647
  levelRange : (g.sdmLimits.extractLsb' 0 16).toInt ≤ (g.sdmLimits.extractLsb' 16 16).toInt

theorem accepted_of_cfgCheck {g : Staging} {p : Params} (h : cfgCheck g p = 0) : Accepted g p := by
  unfold cfgCheck at h
  split at h
  · cases h
  iterate 8
    split at h
    · cases h
  constructor <;> omega

/-- With K_i not positive the windup limit is 0, R53. -/
theorem Accepted.windup_le {g : Staging} {p : Params} (h : Accepted g p) : g.windup p ≤ 2147483647 := by
  by_cases hk : 0 < g.ki.toInt
  · exact h.windupFits hk
  · simp [Staging.windup, hk]

/-- S_num fits its register: PRE_DIV_BITS is below 64. -/
theorem scaleNum_lt {g : Staging} {p : Params} (hp : p.preDivBits ≤ 63) : g.scaleNum p < 18446744073709551616 := by
  unfold Staging.scaleNum
  split
  · omega
  · have h1 : 2 ^ p.preDivBits / g.er ≤ 2 ^ p.preDivBits := Nat.div_le_self _ _
    have h2 : 2 ^ p.preDivBits ≤ 2 ^ 63 := Nat.pow_le_pow_right (by omega) hp
    omega

theorem load_er {s : State} (h : Accepted s.staging s.params) : (load s).er = s.staging.er :=
  Nat.mod_eq_of_lt h.incrementsFit.2

theorem load_em {s : State} (h : Accepted s.staging s.params) : (load s).em = s.staging.em :=
  Nat.mod_eq_of_lt h.incrementsFit.1

theorem load_snum {s : State} (hp : s.params.Legal) : (load s).snum = s.staging.scaleNum s.params :=
  Nat.mod_eq_of_lt (scaleNum_lt hp.2.2.1)

theorem load_wlim {s : State} (h : Accepted s.staging s.params) : (load s).wlim = s.staging.windup s.params :=
  Nat.mod_eq_of_lt (lt_of_le_of_lt h.windup_le (by decide))

theorem load_configured {s : State} (hp : s.params.Legal) (h : Accepted s.staging s.params) : Configured (load s) where
  lutLength := h.lutLength
  nominalInTable := h.nominalInTable
  integralGainNonneg := h.integralGainNonneg
  levelRange := h.levelRange
  windupValue := load_wlim h
  scaleValue := by rw [load_snum hp, load_er h]; rfl
  widthBudget := by rw [load_er h, load_em h, load_snum hp]; exact h.widthBudget

theorem load_inv {s : State} (h : Inv s) (hf : s.status.fatal = false) (ha : Accepted s.staging s.params) :
    Inv (load s) :=
  { h with
    activeCtrlReserved := ctrl_mask_reserved _
    windupBound := load_wlim ha ▸ ha.windup_le
    counterBelowRate := fun _ => Nat.pos_of_ne_zero ha.loopRate
    accumBound := by simp [load]
    lockCodeLegal := .inl rfl
    lockedMeansZero := fun hl => absurd hl unlockedLow_ne_locked
    levelInRange := fun _ => .inr rfl
    fatalNotInitialised := fun ht => absurd (hf.symm.trans ht) (by decide)
    configured := fun _ => load_configured h.paramsLegal ha }

/-- R305, R307: the fatal state is not initialised, and names the failing check. -/
theorem raiseFatal_inv {s : State} (h : Inv s) {n : Nat} (h0 : n ≠ 0) (h9 : n ≤ 9) :
    Inv (s.raiseFatal (BitVec.ofNat 4 n)) :=
  have hn : (BitVec.ofNat 4 n).toNat = n := Nat.mod_eq_of_lt (by omega)
  { h with
    counterBelowRate := fun hi => nomatch hi
    levelInRange := fun hi => nomatch hi
    fatalNotInitialised := fun _ => rfl
    causeNamed := ⟨hn.trans_le h9, fun _ hz => h0 (hn.symm.trans (congrArg BitVec.toNat hz)), fun _ => rfl⟩
    errorCodeLegal := show (5#8).toNat ≤ 5 by decide
    configured := fun hi => nomatch hi }

theorem initRule_inv {s : State} (h : Inv s) (hf : s.status.fatal = false) : Inv (initRule s) := by
  rcases initRule_cases s with ⟨hc, hi⟩ | ⟨hc, hi⟩ <;> rw [hi]
  · exact load_inv h hf (accepted_of_cfgCheck hc)
  · exact raiseFatal_inv h hc (cfgCheck_le _ _)

/-- A block just powered on meets the invariant, for all legal parameters. -/
theorem powerOn_inv {p : Params} (hp : p.Legal) (epoch : Nat) : Inv (State.powerOn p epoch) where
  paramsLegal := hp
  memoryCanonical := rfl
  memoryInside := fun _ hc => nomatch hc
  ctrlReserved := by simp [State.powerOn]
  activeCtrlReserved := by simp [State.powerOn]
  windupBound := Nat.zero_le _
  counterBelowRate := fun hi => nomatch hi
  accumBound := by simp [State.powerOn, State.wlim]
  lockCodeLegal := .inl rfl
  lockedMeansZero := fun hl => absurd hl unlockedLow_ne_locked
  levelInRange := fun hi => nomatch hi
  fatalNotInitialised := fun _ => rfl
  causeNamed := by simp [State.powerOn]
  errorCodeLegal := Nat.zero_le _
  configured := fun hi => nomatch hi

theorem hardReset_inv {s : State} (h : Inv s) : Inv s.hardReset :=
  (powerOn_inv h.paramsLegal (s.lutEpoch + 1)).congr rfl rfl rfl rfl rfl rfl rfl rfl rfl rfl

/-! ### Every operation, every step -/

theorem exec_inv {i : Instr} {s t : State} (h : Inv s) (hx : exec i s = .next t) : Inv t := by
  refine exec_elim hx h ?error ?read ?readRejected ?clear ?stage ?hostRegs ?lutWrite ?init ?sample ?pfd ?pi ?lut ?publish
    ?sdmTick ?edge ?tick ?reset
  case error => exact fun code hc => errCode_inv h (by omega)
  case read => exact fun w => h.congr rfl rfl rfl rfl rfl rfl rfl rfl rfl rfl
  case readRejected =>
    exact (errCode_inv h (code := errBus) (by decide)).congr rfl rfl rfl rfl rfl rfl rfl rfl rfl rfl
  case clear => exact errCode_inv h (by decide)
  case stage => exact fun g hg => staging_inv h (hg h.ctrlReserved)
  case hostRegs => exact fun g => hostRegs_inv h g
  case lutWrite => exact fun i v hi => lutWrite_inv h v hi
  case init => exact fun hf => initRule_inv h hf
  case sample => exact fun hr => hostRegs_inv (edgeStep_inv h hr) _
  case pfd => exact fun _ => hostRegs_inv (pfdFunction_inv h) _
  case pi => exact fun _ => hostRegs_inv (piFunction_inv h) _
  case lut => exact fun _ => hostRegs_inv (lutFunction_inv h) _
  case publish => exact fun _ => send_inv h
  case sdmTick => exact fun hr _ => hostRegs_inv (sdmStep_inv h hr) _
  case edge => exact fun m r hr => edgeStep_inv h hr
  case tick => exact fun hr _ => sdmStep_inv h hr
  case reset => exact hardReset_inv h

theorem takeStimulus_inv {s t : State} {st : Stimulus} (h : Inv s) (ht : s.takeStimulus = some (st, t)) : Inv t := by
  rw [takeStimulus_frame ht]
  exact h.congr rfl rfl rfl rfl rfl rfl rfl rfl rfl rfl

/-- Settles O10: idling and taking a stimulus touch nothing the invariant reads, and every operation keeps it. -/
theorem stepKeepsTheInvariant : Obligations.StepKeepsTheInvariant := by
  intro s t h hs
  rcases step_cases hs with ⟨-, rfl⟩ | ⟨st, u, i, hu, -, hx⟩
  · exact h.congr rfl rfl rfl rfl rfl rfl rfl rfl rfl rfl
  · exact exec_inv (takeStimulus_inv h hu) hx

/-- Settles O11: the reset state is the block powered on with the default parameters. -/
theorem resetMeetsTheInvariant : Obligations.ResetMeetsTheInvariant := powerOn_inv (by decide) 0

end Sys2Proof.Machine
end

section
/-!
PROOFS. Rules about the whole machine: what may write the configuration and the LUT RAM, what the staging registers are
visible to, and what one operation emits (spec/10_state.md R31, R48, R69, R70; spec/20_memory.md R99).
-/

namespace Sys2Proof.Machine

open Sys2Proof.Spec

/-! ### The kinds of operation -/

/-- An operation is a command, a bus transaction, an event, or a hardware reset. -/
theorem exec_cases {i : Instr} {s t : State} (h : exec i s = .next t) :
    (∃ c : Command, i = c.instr ∧ t = runCommand c s) ∨ (∃ a, i = .read a ∧ t = busRead a s) ∨
    (∃ a d, i = .write a d ∧ t = busWrite a d s) ∨ (∃ m r, i = .edge m r ∧ t = edgeEvent m r s) ∨
    (i = .tick ∧ t = tickEvent s) ∨ (i = .rst ∧ t = s.hardReset) := by
  have byName : ∀ c : Command, exec c.instr s = .next t → ∃ c' : Command, c.instr = c'.instr ∧ t = runCommand c' s :=
    fun c hc => ⟨c, rfl, (Host.Outcome.next.inj ((exec_instr c s).symm.trans hc)).symm⟩
  cases i
  case nop => exact .inl (byName .nop h)
  case init => exact .inl (byName .init h)
  case sample => exact .inl (byName .sample h)
  case pfd => exact .inl (byName .pfd h)
  case pi => exact .inl (byName .pi h)
  case lut => exact .inl (byName .lut h)
  case publish => exact .inl (byName .publish h)
  case sdmTick => exact .inl (byName .sdmTick h)
  all_goals cases h; simp

/-! ### The LUT RAM -/

/-- The storage and its epoch, which are all a read of LUT RAM depends on, are the same. -/
def SameStorage (s t : State) : Prop := t.mem = s.mem ∧ t.lutEpoch = s.lutEpoch

theorem SameStorage.sameMemory {s t : State} (h : SameStorage s t) : SameMemory s t :=
  State.readByte_congr h.1 h.2

theorem initRule_sameStorage (s : State) : SameStorage s (initRule s) := by
  rcases initRule_cases s with ⟨-, h⟩ | ⟨-, h⟩ <;> rw [h] <;> exact ⟨rfl, rfl⟩

theorem runCommand_sameStorage (c : Command) (s : State) : SameStorage s (runCommand c s) := by
  refine runCommand_elim c ⟨rfl, rfl⟩ ?error ?init ?sample ?pfd ?pi ?lut ?publish ?sdmTick
  case init => exact fun _ => initRule_sameStorage s
  all_goals simp [SameStorage]

theorem busRead_sameStorage (a : Addr) (s : State) : SameStorage s (busRead a s) := by
  rcases busRead_cases a s with ⟨l, -, h⟩ | ⟨-, h⟩ <;> rw [h] <;> exact ⟨rfl, rfl⟩

theorem writeReg_sameStorage (r : Reg) (d : Word) (s : State) : SameStorage s (writeReg r d s) :=
  writeReg_elim r d ⟨rfl, rfl⟩ (fun _ _ => ⟨rfl, rfl⟩) (fun _ => ⟨rfl, rfl⟩)
    (execute_elim d ⟨rfl, rfl⟩ (fun _ _ => ⟨rfl, rfl⟩) fun c _ => runCommand_sameStorage c s)

theorem edgeEvent_sameStorage (m r : Half) (s : State) : SameStorage s (edgeEvent m r s) := by
  rcases edgeEvent_cases m r s with h | ⟨-, h⟩ <;> rw [h] <;> simp [SameStorage]

theorem tickEvent_sameStorage (s : State) : SameStorage s (tickEvent s) := by
  rcases tickEvent_cases s with h | ⟨-, -, h⟩ <;> rw [h] <;> simp [SameStorage]

/-- A WRITE keeps the storage, or writes the entry its address names. -/
theorem busWrite_storage (a : Addr) (d : Word) (s : State) :
    SameStorage s (busWrite a d s) ∨
    ∃ i v, a.toNat = lutAddr i ∧ busWrite a d s = s.lutWrite i v := by
  rcases busWrite_cases a d s with ⟨r, -, h⟩ | ⟨i, hl, h⟩ | ⟨-, h⟩ <;> rw [h]
  · exact .inl (writeReg_sameStorage r d s)
  · exact .inr ⟨i, _, (locate_lut hl).1, rfl⟩
  · exact .inl ⟨rfl, rfl⟩

/-- Every operation but RST keeps the storage, or is a WRITE that stores one entry. -/
theorem exec_storage {i : Instr} {s t : State} (h : exec i s = .next t) (hr : i ≠ .rst) :
    SameStorage s t ∨ ∃ a d j v, i = .write a d ∧ a.toNat = lutAddr j ∧ t = s.lutWrite j v := by
  rcases exec_cases h with ⟨c, -, rfl⟩ | ⟨a, -, rfl⟩ | ⟨a, d, rfl, rfl⟩ | ⟨m, r, -, rfl⟩ | ⟨-, rfl⟩ | ⟨rfl, -⟩
  · exact .inl (runCommand_sameStorage c s)
  · exact .inl (busRead_sameStorage a s)
  · exact (busWrite_storage a d s).imp_right fun ⟨j, v, ha, hw⟩ => ⟨a, d, j, v, rfl, ha, hw⟩
  · exact .inl (edgeEvent_sameStorage m r s)
  · exact .inl (tickEvent_sameStorage s)
  · exact absurd rfl hr

/-- Settles O57: an operation that stores is a WRITE in the window, and stores the two bytes of its own entry. -/
theorem onlyTheLutWindowAndResetStore : Obligations.OnlyTheLutWindowAndResetStore := by
  intro i s t h hr
  rcases exec_storage h hr with hs | ⟨a, d, j, v, rfl, ha, rfl⟩
  · exact ⟨fun _ => hs.sameMemory, fun _ _ _ b _ _ => hs.sameMemory b⟩
  · constructor
    · intro hlow
      have := hlow a d rfl
      unfold lutAddr at ha
      omega
    · intro a' d' hw b h0 h1
      cases hw
      exact s.readByte_lutWrite_other v (ha ▸ h0) (ha ▸ h1)

/-! ### The configuration -/

/-- The active and derived registers are the same. -/
def SameConfiguration (s t : State) : Prop := t.active = s.active ∧ t.derived = s.derived

theorem gate_sameConfiguration {c : Command} {rule : State → State} {s : State} (h : SameConfiguration s (rule s)) :
    SameConfiguration s (gate c rule s) :=
  gate_elim ⟨rfl, rfl⟩ (fun _ _ => ⟨rfl, rfl⟩) fun _ _ _ => h

theorem runCommand_sameConfiguration {c : Command} (hc : c ≠ .init) (s : State) :
    SameConfiguration s (runCommand c s) := by
  cases c
  case init => exact absurd rfl hc
  case nop => exact gate_sameConfiguration ⟨rfl, rfl⟩
  all_goals exact gate_sameConfiguration (by simp [SameConfiguration])

/-- INIT's word is 1, R113. -/
theorem eq_one_of_decodeCommand_init {w : Word} (h : decodeCommand w = .ok .init) : w = 0x00000001#32 := by
  unfold decodeCommand at h
  split at h
  · cases h
  · next hr =>
    have hlt : w.toNat < 256 := (commandWord_reserved w).1 (not_not.1 hr)
    split at h <;> cases h
    next hop =>
      have : w.toNat % 256 = 1 := by simpa using hop
      exact BitVec.eq_of_toNat_eq (by simp; omega)

/-- Only CMD's address names CMD. -/
theorem eq_cmdAddr_of_locate {s : State} {a : Addr} (h : s.locate a = some (.reg .cmd)) : a = 0x048#20 := by
  have hreg : regAt a.toNat = some .cmd := by
    unfold State.locate at h
    split at h
    · cases h
    · split at h
      · simpa using h
      · split at h <;> cases h
  unfold regAt at hreg
  split at hreg <;> cases hreg
  next ha => exact BitVec.eq_of_toNat_eq ha

theorem execute_sameConfiguration {d : Word} (hd : decodeCommand d ≠ .ok .init) (s : State) :
    SameConfiguration s (execute d s) :=
  execute_elim d ⟨rfl, rfl⟩ (fun _ _ => ⟨rfl, rfl⟩) fun _ hc =>
    runCommand_sameConfiguration (fun hi => hd (hi ▸ hc)) s

theorem writeReg_sameConfiguration {r : Reg} {d : Word} (h : r = .cmd → decodeCommand d ≠ .ok .init) (s : State) :
    SameConfiguration s (writeReg r d s) := by
  cases r
  case cmd => exact execute_sameConfiguration (h rfl) s
  all_goals exact ⟨rfl, rfl⟩

/-- A WRITE of any word but INIT's, or to any address but CMD's, keeps the configuration. -/
theorem busWrite_sameConfiguration {a : Addr} {d : Word} (h : ¬ (a = 0x048#20 ∧ d = 0x00000001#32)) (s : State) :
    SameConfiguration s (busWrite a d s) := by
  rcases busWrite_cases a d s with ⟨r, hl, hw⟩ | ⟨i, -, hw⟩ | ⟨-, hw⟩ <;> rw [hw]
  · refine writeReg_sameConfiguration (fun hr hd => h ⟨?_, eq_one_of_decodeCommand_init hd⟩) s
    exact eq_cmdAddr_of_locate (hr ▸ hl)
  · exact ⟨rfl, rfl⟩
  · exact ⟨rfl, rfl⟩

theorem busRead_sameConfiguration (a : Addr) (s : State) : SameConfiguration s (busRead a s) := by
  rcases busRead_cases a s with ⟨l, -, h⟩ | ⟨-, h⟩ <;> rw [h] <;> exact ⟨rfl, rfl⟩

theorem edgeEvent_sameConfiguration (m r : Half) (s : State) : SameConfiguration s (edgeEvent m r s) := by
  rcases edgeEvent_cases m r s with h | ⟨-, h⟩ <;> rw [h] <;> simp [SameConfiguration]

theorem tickEvent_sameConfiguration (s : State) : SameConfiguration s (tickEvent s) := by
  rcases tickEvent_cases s with h | ⟨-, -, h⟩ <;> rw [h] <;> simp [SameConfiguration]

/-- Settles O55: every operation but the three keeps the configuration. -/
theorem onlyInitAndResetWriteTheConfiguration : Obligations.OnlyInitAndResetWriteTheConfiguration := by
  intro i s t h hne
  by_contra hi
  obtain ⟨hinit, hwrite, hrst⟩ : i ≠ .init ∧ i ≠ .write 0x048#20 0x00000001#32 ∧ i ≠ .rst := by tauto
  have hsame : SameConfiguration s t := by
    rcases exec_cases h with ⟨c, rfl, rfl⟩ | ⟨a, -, rfl⟩ | ⟨a, d, rfl, rfl⟩ | ⟨m, r, -, rfl⟩ | ⟨-, rfl⟩ | ⟨rfl, -⟩
    · exact runCommand_sameConfiguration (fun hc => hinit (congrArg Command.instr hc)) s
    · exact busRead_sameConfiguration a s
    · exact busWrite_sameConfiguration (fun ⟨ha, hd⟩ => hwrite (ha ▸ hd ▸ rfl)) s
    · exact edgeEvent_sameConfiguration m r s
    · exact tickEvent_sameConfiguration s
    · exact absurd rfl hrst
  exact hne.elim (· hsame.1) (· hsame.2)

/-! ### The staging registers -/

/-- The state with other staging registers. -/
def State.restage (g : Staging) (s : State) : State := { s with staging := g }

/-- An operation to which the staging registers are invisible: it neither reads nor writes them. -/
def StagingBlind (f : State → State) : Prop := ∀ g s, f (s.restage g) = (f s).restage g

theorem gate_blind {rule : State → State} (c : Command) (h : StagingBlind rule) : StagingBlind (gate c rule) := by
  intro g s
  show (if s.status.fatal then s.restage g
    else if needsInit c && !s.status.initialised then (s.raiseError errNotInit).restage g
    else if needsSdmMode c && !s.mode then (s.raiseError errMode).restage g
    else rule (s.restage g)) = (gate c rule s).restage g
  rw [h g s]
  simp only [gate, apply_ite (State.restage g)]

theorem receive_blind : StagingBlind State.receive := by
  intro g s
  cases hf : s.mailbox.full with
  | true => rw [receive_full hf, receive_full (s := s.restage g) hf]; rfl
  | false => rw [receive_empty hf, receive_empty (s := s.restage g) hf]

/-- A modulator step answers the same level, and the same state but for the staging registers. -/
theorem sdmStep_restage (g : Staging) (s : State) :
    sdmStep (s.restage g) = ((sdmStep s).1, (sdmStep s).2.restage g) := by
  unfold sdmStep
  rw [receive_blind g s]
  rfl

theorem sdmTickRule_blind : StagingBlind sdmTickRule := by
  intro g s
  unfold sdmTickRule
  rw [sdmStep_restage]
  rfl

theorem tickEvent_blind : StagingBlind tickEvent := by
  intro g s
  show (if s.running && s.mode then (sdmStep (s.restage g)).2 else s.restage g) = (tickEvent s).restage g
  rw [sdmStep_restage, tickEvent, apply_ite (State.restage g)]

theorem drive_blind (c : Int) : StagingBlind (drive c) := by
  intro g s
  cases hm : s.mode with
  | true => rw [drive_of_sdmMode hm, drive_of_sdmMode (s := s.restage g) hm]; rfl
  | false => rw [drive_of_lutMode hm, drive_of_lutMode (s := s.restage g) hm]; rfl

theorem actuate_blind (m : Half) (pe : Int) : StagingBlind (actuate m pe) := fun g s =>
  congrArg (fun u : State => { u with pfd := { u.pfd with mclkLast := m } })
    (drive_blind (piFunction pe s).1 g (piFunction pe s).2)

/-- A control update is of the same kind, and answers the same state but for the staging registers. -/
theorem controlUpdate_restage (m r : Half) (g : Staging) (s : State) :
    controlUpdate m r (s.restage g) = ((controlUpdate m r s).1, (controlUpdate m r s).2.restage g) := by
  show (if s.seq.firstLoop then (UpdateKind.first, (firstLoopUpdate m r s).restage g)
    else if (pfdFunction m r s).1.resync then (.resync, (resyncAction m (pfdFunction m r s).2).restage g)
    else (.steady, actuate m (pfdFunction m r s).1.phaseError ((pfdFunction m r s).2.restage g))) = _
  rw [actuate_blind]
  rcases controlUpdate_cases m r s with ⟨hf, hu⟩ | ⟨hf, hr, hu⟩ | ⟨hf, hr, hu⟩ <;> rw [hu]
  · rw [if_pos hf]
  · rw [hf, if_neg Bool.false_ne_true, if_pos hr]
  · rw [hf, if_neg Bool.false_ne_true, hr, if_neg Bool.false_ne_true]

/-- A sequencer step is of the same kind, and answers the same state but for the staging registers. -/
theorem edgeStep_restage (m r : Half) (g : Staging) (s : State) :
    edgeStep m r (s.restage g) = ((edgeStep m r s).1, (edgeStep m r s).2.restage g) := by
  rcases edgeStep_cases m r s with ⟨hne, hs⟩ | ⟨heq, hs⟩ <;> rw [hs]
  · exact if_neg hne
  · exact (if_pos heq).trans (controlUpdate_restage m r g { s with seq := { s.seq with loopCounter := 0#32 } })

theorem sampleRule_blind : StagingBlind sampleRule := by
  intro g s
  have h : edgeStep s.argMclk s.argRef (s.restage g) = _ := edgeStep_restage s.argMclk s.argRef g s
  exact congrArg (fun q : UpdateKind × State =>
    { q.2 with host := { q.2.host with result0 := q.1.code, result1 := q.2.lockCode } }) h

theorem edgeEvent_blind (m r : Half) : StagingBlind (edgeEvent m r) := by
  intro g s
  show (if s.running then (edgeStep m r (s.restage g)).2 else s.restage g) = (edgeEvent m r s).restage g
  rw [edgeStep_restage, edgeEvent, apply_ite (State.restage g)]

/-- The staging registers are invisible to every command but INIT. -/
theorem runCommand_blind {c : Command} (hc : c ≠ .init) : StagingBlind (runCommand c) := by
  cases c
  case init => exact absurd rfl hc
  case sample => exact gate_blind .sample sampleRule_blind
  case sdmTick => exact gate_blind .sdmTick sdmTickRule_blind
  case nop => exact gate_blind .nop fun _ _ => rfl
  case pfd => exact gate_blind .pfd fun _ _ => rfl
  case pi => exact gate_blind .pi fun _ _ => rfl
  case lut => exact gate_blind .lut fun _ _ => rfl
  case publish => exact gate_blind .publish fun _ _ => rfl

/-- Settles O56: the commands but INIT and the two events are blind to the staging registers. -/
theorem stagingIsInvisibleToTheDatapath : Obligations.StagingIsInvisibleToTheDatapath := by
  intro i g s t hi h
  show exec i (s.restage g) = .next (t.restage g)
  rcases exec_cases h with ⟨c, rfl, rfl⟩ | ⟨a, rfl, -⟩ | ⟨a, d, rfl, -⟩ | ⟨m, r, rfl, rfl⟩ | ⟨rfl, rfl⟩ | ⟨rfl, -⟩
  · have hc : c ≠ .init := by rintro rfl; cases hi
    rw [exec_instr, runCommand_blind hc]
  · cases hi
  · cases hi
  · exact congrArg Host.Outcome.next (edgeEvent_blind m r g s)
  · exact congrArg Host.Outcome.next (tickEvent_blind g s)
  · cases hi

/-! ### The outputs -/

/-- What one operation may emit, R70 and R362. -/
def EmitsAtMostOne (s t : State) : Prop :=
  t.outputs = s.outputs ∨ (∃ v : Half, t.outputs = s.outputs ++ [fracWriteOf v]) ∨
    t.outputs = s.outputs ++ [.resyncEvt]

/-- The word of a FracWrite is the value with the enable bit above it, R70. -/
theorem fracWord_eq (v : Half) : fracWord v = BitVec.ofNat 32 (2 ^ 31 + v.toNat) := by
  have hor : 2 ^ 31 * 1 + v.toNat = 2 ^ 31 * 1 ||| v.toNat := Nat.two_pow_add_eq_or_of_lt (by omega) 1
  have hlt : 2 ^ 31 + v.toNat < 2 ^ 32 := by omega
  apply BitVec.eq_of_toNat_eq
  calc (fracWord v).toNat = 2 ^ 31 * 1 ||| v.toNat := by
        rw [fracWord, BitVec.toNat_or, BitVec.toNat_setWidth, Nat.mod_eq_of_lt (by omega)]
        rfl
    _ = 2 ^ 31 + v.toNat := by omega
    _ = (BitVec.ofNat 32 (2 ^ 31 + v.toNat)).toNat := (Nat.mod_eq_of_lt hlt).symm

theorem emitFrac_emits (v : Half) (s : State) : EmitsAtMostOne s (s.emitFrac v) :=
  .inr (.inl ⟨v, by simp [fracWriteOf, fracWord_eq]⟩)

theorem drive_emits (c : Int) (s : State) : EmitsAtMostOne s (drive c s) := by
  cases hm : s.mode with
  | true => exact drive_of_sdmMode hm ▸ .inl rfl
  | false => exact drive_of_lutMode hm ▸ emitFrac_emits _ (lutFunction c s).2

theorem controlUpdate_emits (m r : Half) (s : State) : EmitsAtMostOne s (controlUpdate m r s).2 := by
  rcases controlUpdate_cases m r s with ⟨-, h⟩ | ⟨-, -, h⟩ | ⟨-, -, h⟩ <;> rw [h]
  · exact .inl rfl
  · exact .inr (.inr rfl)
  · exact drive_emits _ (piFunction _ (pfdFunction m r s).2).2

theorem edgeStep_emits (m r : Half) (s : State) : EmitsAtMostOne s (edgeStep m r s).2 := by
  rcases edgeStep_cases m r s with ⟨-, h⟩ | ⟨-, h⟩ <;> rw [h]
  · exact .inl rfl
  · exact controlUpdate_emits m r _

theorem sdmStep_outputs (s : State) :
    (sdmStep s).2.outputs = s.outputs ++ [.fracWrite (fracWord (BitVec.ofInt 16 (sdmStep s).1))] := by
  simp [sdmStep]

theorem sdmStep_emits (s : State) : EmitsAtMostOne s (sdmStep s).2 :=
  .inr (.inl ⟨_, by rw [sdmStep_outputs, fracWord_eq, fracWriteOf]⟩)

theorem initRule_outputs (s : State) : (initRule s).outputs = s.outputs := by
  rcases initRule_cases s with ⟨-, h⟩ | ⟨-, h⟩ <;> rw [h] <;> rfl

/-- Settles O58: the sequencer's step and the modulator's emit one output at most, every other operation none. -/
theorem anOperationEmitsAtMostOneOutput : Obligations.AnOperationEmitsAtMostOneOutput := by
  intro i s t h
  refine exec_elim (P := EmitsAtMostOne s) h (.inl rfl) ?error ?read ?readRejected ?clear ?stage ?hostRegs ?lutWrite ?init
    ?sample ?pfd ?pi ?lut ?publish ?sdmTick ?edge ?tick ?reset
  case init => exact fun _ => .inl (initRule_outputs s)
  case sample => exact fun _ => edgeStep_emits s.argMclk s.argRef s
  case sdmTick => exact fun _ _ => sdmStep_emits s
  case edge => exact fun m r _ => edgeStep_emits m r s
  case tick => exact fun _ _ => sdmStep_emits s
  all_goals simp [EmitsAtMostOne]

end Sys2Proof.Machine
end

section
/-!
PROOFS. Steps and ordering (spec/20_memory.md R94-R98): what the decoder reads back from an operation's raw form, which
stimulus of an arrival is taken next, and why a step on legal inputs never stops.
-/

namespace Sys2Proof

/-! ### The decoder on encoded operations -/

@[simp] theorem decodeCommand_encodeCommand (c : Command) : decodeCommand (encodeCommand c) = .ok c := by
  cases c <;> rfl

/-- R115: a legal command word is below 8. -/
theorem toNat_lt_of_decodeCommand {w : Word} {c : Command} (h : decodeCommand w = .ok c) : w.toNat < 8 := by
  unfold decodeCommand at h
  split at h
  · cases h
  · next hr =>
    have hlt : w.toNat < 256 := (commandWord_reserved w).1 (not_not.1 hr)
    have hop : (w.extractLsb' 0 8).toNat = w.toNat := by simp; omega
    split at h <;> cases h <;> omega

theorem decode_encodeCommandWrite (c : Command) : decode (encodeCommandWrite c) = .ok c.instr := by
  simp [decode, encodeCommandWrite, decodeBus]

theorem decode_read (a : Addr) (d : Word) : decode (.bus (busHeader false a) d) = .ok (.read a) := by
  simp only [decode, decodeBus, busHeader_reserved, busHeader_write, busHeader_addr]
  rfl

/-- R112: a WRITE that is not of a legal command word to CMD stands for itself. -/
theorem decode_write {a : Addr} {d : Word} (h : a = cmdAddr → 8 ≤ d.toNat) :
    decode (.bus (busHeader true a) d) = .ok (.write a d) := by
  by_cases ha : a = cmdAddr
  · cases hd : decodeCommand d with
    | ok c => have := toNat_lt_of_decodeCommand hd; have := h ha; omega
    | error e => simp [decode, decodeBus, ha, hd]
  · simp [decode, decodeBus, ha]

/-- Every well-formed operation is read back from its raw form. -/
theorem decode_encode {i : Instr} (h : WellFormed i) : decode (encode i) = .ok i := by
  cases i
  case nop => exact decode_encodeCommandWrite .nop
  case init => exact decode_encodeCommandWrite .init
  case sample => exact decode_encodeCommandWrite .sample
  case pfd => exact decode_encodeCommandWrite .pfd
  case pi => exact decode_encodeCommandWrite .pi
  case lut => exact decode_encodeCommandWrite .lut
  case publish => exact decode_encodeCommandWrite .publish
  case sdmTick => exact decode_encodeCommandWrite .sdmTick
  case read a => exact decode_read a 0#32
  case write a d =>
    refine decode_write fun ha => ?_
    subst ha
    simpa [WellFormed, wellFormed, cmdAddr] using h
  case edge m r => simp [encode, decode, decodeEvent]
  case tick => rfl
  case rst => rfl

/-- The raw form of every operation is one the hardware's ports present. -/
theorem encode_legal (i : Instr) : Laws.legalStimulus (encode i) = true := by
  cases i
  case read a => exact Laws.LegalForm.read a
  case write a d => exact Laws.LegalForm.write a d
  all_goals rfl

/-- A bus header with RSV zero describes a transaction, R117. -/
theorem decodeBus_of_legal {header : Word} (data : Word) (h : header.extractLsb' 20 11 = 0#11) :
    ∃ i, decodeBus header data = .ok i := by
  rw [decodeBus, if_neg (not_not.2 h)]
  split
  · split
    · split <;> exact ⟨_, rfl⟩
    · exact ⟨_, rfl⟩
  · exact ⟨_, rfl⟩

/-- A stimulus of the hardware's ports is one operation. -/
theorem decode_of_legal {st : Stimulus} (h : Laws.legalStimulus st = true) : ∃ i, decode st = .ok i := by
  cases st
  case bus header data => exact decodeBus_of_legal data (by simpa [Laws.legalStimulus] using h)
  case event w payload =>
    obtain rfl | rfl : w = 0b01#2 ∨ w = 0b10#2 := by simpa [Laws.legalStimulus] using h
    all_goals exact ⟨_, rfl⟩
  case reset => exact ⟨_, rfl⟩

end Sys2Proof

namespace Sys2Proof.Machine

/-! ### Which stimulus is taken next -/

/-- R118: an event word without an edge and without a tick is no event. -/
theorem eventWord_eq_zero {w : BitVec 2} (h0 : w.getLsbD 0 = false) (h1 : w.getLsbD 1 = false) : w = 0b00#2 := by
  revert w
  decide

/-- What may be performed next of an arrival: an event or the bus transaction, or, with neither of them left, RST. -/
theorem candidates_cases {a left : Arrival} {st : Stimulus} (h : (st, left) ∈ candidates a) :
    (st = .event 0b01#2 a.payload ∧ left = { a with event := a.event &&& 0b10#2 }) ∨
    (st = .event 0b10#2 a.payload ∧ left = { a with event := a.event &&& 0b01#2 }) ∨
    (∃ header data, a.bus = some (header, data) ∧ st = .bus header data ∧ left = { a with bus := none }) ∨
    (a.event = 0b00#2 ∧ a.bus = none ∧ a.reset = true ∧ st = .reset ∧ left = { a with reset := false }) := by
  simp only [candidates] at h
  split at h
  case h_1 hnil =>
    obtain ⟨⟨hedge, htick⟩, hbus⟩ : (a.event.getLsbD 0 = false ∧ a.event.getLsbD 1 = false) ∧ a.bus = none := by
      cases hb : a.bus with
      | none => simpa [hb] using hnil
      | some p => simp [hb] at hnil
    cases hr : a.reset <;> rw [hr] at h
    · cases h
    · cases List.mem_singleton.1 h
      exact .inr (.inr (.inr ⟨eventWord_eq_zero hedge htick, hbus, rfl, rfl, rfl⟩))
  case h_2 =>
    rw [List.mem_append, List.mem_append] at h
    rcases h with (h | h) | h
    · exact .inl (by simpa using (List.mem_ite_nil_right.1 h).2)
    · exact .inr (.inl (by simpa using (List.mem_ite_nil_right.1 h).2))
    · split at h
      · next header data hb =>
        cases List.mem_singleton.1 h
        exact .inr (.inr (.inl ⟨header, data, hb, rfl, rfl⟩))
      · cases h

theorem chooseFrom_mem (c : Stimulus × Arrival) (cs : List (Stimulus × Arrival)) (n : Nat) :
    chooseFrom c cs n ∈ c :: cs := by
  unfold chooseFrom
  cases h : (c :: cs)[Config.simultaneousOrder n % (cs.length + 1)]? with
  | none => exact List.mem_cons_self
  | some d => exact List.mem_of_getElem? h

/-- What taking a stimulus does: one candidate of the first arrival is chosen, and what is left of it goes back. -/
theorem takeStimulus_cases {s t : State} {st : Stimulus} (h : s.takeStimulus = some (st, t)) :
    ∃ a rest left, s.inputs = a :: rest ∧ (st, left) ∈ candidates a ∧ t.inputs = requeue left rest := by
  unfold State.takeStimulus at h
  split at h
  · cases h
  · next a rest hi =>
    split at h
    · cases h
    · next st' left hc =>
      cases h
      exact ⟨a, rest, left, hi, hc ▸ List.mem_cons_self, rfl⟩
    · next c cs _ hc =>
      cases h
      exact ⟨a, rest, _, hi, hc ▸ chooseFrom_mem c cs s.orderCount, rfl⟩

theorem step_of_takeStimulus {s t : State} {st : Stimulus} {i : Instr} (ht : s.takeStimulus = some (st, t))
    (hd : decode st = .ok i) : step s = exec i t := by
  simp only [step, ht, hd]

/-- Settles O5: the definition of a step, said as an equation. -/
theorem stepRunsTheDecodedOperation : Obligations.StepRunsTheDecodedOperation :=
  fun _ _ _ _ => step_of_takeStimulus

/-- Settles O8: RST is a candidate of an arrival only when nothing else is left of it. -/
theorem resetIsPerformedLast : Obligations.ResetIsPerformedLast := by
  intro s t a rest hi ht
  obtain ⟨a', rest', left, hi', hc, -⟩ := takeStimulus_cases ht
  cases hi.symm.trans hi'
  rcases candidates_cases hc with ⟨hst, -⟩ | ⟨hst, -⟩ | ⟨header, data, -, hst, -⟩ | ⟨he, hb, hr, -, -⟩
  · cases hst
  · cases hst
  · cases hst
  · exact ⟨he, hb, hr⟩

/-! ### A stimulus that arrives alone -/

/-- An arrival left with nothing is dropped from the inputs. -/
theorem takeStimulus_of_one {s : State} {a left : Arrival} {rest : List Arrival} {st : Stimulus}
    (hi : s.inputs = a :: rest) (hc : candidates a = [(st, left)]) (hl : candidates left = []) :
    s.takeStimulus = some (st, { s with inputs := rest }) := by
  simp [State.takeStimulus, hi, hc, requeue, Arrival.isEmpty, hl]

theorem candidates_nothing (payload : Word) :
    candidates { event := 0b00#2, payload := payload, bus := none, reset := false } = [] := by
  simp [candidates]

/-- An arrival of one stimulus presents that stimulus alone, and nothing of it is left. -/
theorem candidates_arrivalOf {st : Stimulus} (h : Laws.legalStimulus st = true) :
    ∃ payload, candidates (arrivalOf st) =
      [(st, { event := 0b00#2, payload := payload, bus := none, reset := false })] := by
  cases st
  case bus header data => exact ⟨0#32, by simp [candidates, arrivalOf]⟩
  case event w payload =>
    refine ⟨payload, ?_⟩
    obtain rfl | rfl : w = 0b01#2 ∨ w = 0b10#2 := by simpa [Laws.legalStimulus] using h
    all_goals simp [candidates, arrivalOf]
  case reset => exact ⟨0#32, by simp [candidates, arrivalOf]⟩

theorem takeStimulus_arrivalOf {st : Stimulus} (h : Laws.legalStimulus st = true) (s : State) :
    { s with inputs := arrivalOf st :: s.inputs }.takeStimulus = some (st, s) := by
  obtain ⟨payload, hc⟩ := candidates_arrivalOf h
  exact takeStimulus_of_one rfl hc (candidates_nothing payload)

/-- Settles O6: the raw form is taken off again and decodes to the operation. -/
theorem stepOnAnEncodedArrivalIsExec : Obligations.StepOnAnEncodedArrivalIsExec :=
  fun i s h => step_of_takeStimulus (takeStimulus_arrivalOf (encode_legal i) s) (decode_encode h)

/-! ### An EDGE and a TICK of one instant -/

/-- Event word 0b11 presents its EDGE, which leaves the TICK, and its TICK, which leaves the EDGE. -/
theorem candidates_edgeAndTick (payload : Word) :
    candidates (arrivalOf (.event 0b11#2 payload)) =
      [(.event 0b01#2 payload, arrivalOf (.event 0b10#2 payload)),
       (.event 0b10#2 payload, arrivalOf (.event 0b01#2 payload))] := by
  simp [candidates, arrivalOf]

/-- What is left of an arrival and presents a stimulus goes first. -/
theorem requeue_arrivalOf {st : Stimulus} (h : Laws.legalStimulus st = true) (rest : List Arrival) :
    requeue (arrivalOf st) rest = arrivalOf st :: rest := by
  obtain ⟨payload, hc⟩ := candidates_arrivalOf h
  simp [requeue, Arrival.isEmpty, hc]

/-- Where an arrival presents two stimuli, one of them is taken and the choice is counted. -/
theorem takeStimulus_of_two {s : State} {a : Arrival} {rest : List Arrival} {c d : Stimulus × Arrival}
    (hi : s.inputs = a :: rest) (hc : candidates a = [c, d]) :
    s.takeStimulus = some (c.1, { s with inputs := requeue c.2 rest, orderCount := s.orderCount + 1 }) ∨
    s.takeStimulus = some (d.1, { s with inputs := requeue d.2 rest, orderCount := s.orderCount + 1 }) := by
  have hmem : chooseFrom c [d] s.orderCount = c ∨ chooseFrom c [d] s.orderCount = d := by
    simpa using chooseFrom_mem c [d] s.orderCount
  simp only [State.takeStimulus, hi, hc]
  rcases hmem with h | h <;> rw [h]
  · exact .inl rfl
  · exact .inr rfl

/-- Settles O7: the two candidates of event word 0b11, each leaving the other first. -/
theorem simultaneousEdgeAndTickGoEitherWay : Obligations.SimultaneousEdgeAndTickGoEitherWay := by
  intro s payload rest hi
  rcases takeStimulus_of_two hi (candidates_edgeAndTick payload) with ht | ht <;> rw [requeue_arrivalOf rfl] at ht
  · exact .inl (step_of_takeStimulus ht rfl)
  · exact .inr (step_of_takeStimulus ht rfl)

/-! ### Legal inputs -/

/-- R117: what an arrival with a legal header presents is an operation, and what is left of it is legal again. -/
theorem candidates_legal {a left : Arrival} {st : Stimulus} (ha : Arrival.legal a = true) (h : (st, left) ∈ candidates a) :
    Laws.legalStimulus st = true ∧ Arrival.legal left = true := by
  rcases candidates_cases h with ⟨rfl, rfl⟩ | ⟨rfl, rfl⟩ | ⟨header, data, hb, rfl, rfl⟩ | ⟨-, -, -, rfl, rfl⟩
  · exact ⟨rfl, ha⟩
  · exact ⟨rfl, ha⟩
  · simp only [Arrival.legal, hb] at ha
    exact ⟨ha, rfl⟩
  · exact ⟨rfl, ha⟩

theorem requeue_legal {left : Arrival} {rest : List Arrival} (hl : Arrival.legal left = true)
    (hr : rest.all Arrival.legal = true) : (requeue left rest).all Arrival.legal = true := by
  unfold requeue
  split
  · exact hr
  · simp only [List.all_cons, hl, hr, Bool.and_self]

theorem takeStimulus_legal {s t : State} {st : Stimulus} (hs : s.inputsLegal = true)
    (h : s.takeStimulus = some (st, t)) : Laws.legalStimulus st = true ∧ t.inputsLegal = true := by
  obtain ⟨a, rest, left, hi, hc, ht⟩ := takeStimulus_cases h
  obtain ⟨ha, hrest⟩ : Arrival.legal a = true ∧ rest.all Arrival.legal = true := by
    simpa only [State.inputsLegal, hi, List.all_cons, Bool.and_eq_true] using hs
  obtain ⟨hst, hleft⟩ := candidates_legal ha hc
  exact ⟨hst, by rw [State.inputsLegal, ht]; exact requeue_legal hleft hrest⟩

theorem idle_legal {s : State} (hs : s.inputsLegal = true) : s.idle.inputsLegal = true := by
  simp only [State.inputsLegal, List.all_eq_true, State.idle_inputs] at hs ⊢
  exact fun a ha => hs a (List.mem_of_mem_tail ha)

theorem initRule_inputs (s : State) : (initRule s).inputs = s.inputs := by
  rcases initRule_cases s with ⟨-, h⟩ | ⟨-, h⟩ <;> simp [h]

/-- No operation touches the stimuli still to come. -/
theorem exec_inputs {i : Instr} {s t : State} (h : exec i s = .next t) : t.inputs = s.inputs := by
  refine exec_elim (P := fun u => u.inputs = s.inputs) h ?keep ?error ?read ?readRejected ?clear ?stage ?hostRegs
    ?lutWrite ?init ?sample ?pfd ?pi ?lut ?publish ?sdmTick ?edge ?tick ?reset
  case init => exact fun _ => initRule_inputs s
  all_goals simp

/-- Settles O9: with no stimulus the block idles, a legal one is decoded, and every operation answers a next state. -/
theorem legalInputsNeverStop : Obligations.LegalInputsNeverStop := by
  intro s hs
  rcases ht : s.takeStimulus with _ | ⟨st, u⟩
  · exact ⟨s.idle, by simp only [step, ht], idle_legal hs⟩
  · obtain ⟨hst, hu⟩ := takeStimulus_legal hs ht
    obtain ⟨i, hd⟩ := decode_of_legal hst
    obtain ⟨t, hx⟩ := exec_next i u
    refine ⟨t, (step_of_takeStimulus ht hd).trans hx, ?_⟩
    rw [State.inputsLegal, exec_inputs hx]
    exact hu

end Sys2Proof.Machine
end

section
/-!
PROOFS. The bus (spec/20_memory.md R80-R88, spec/46_init_and_host.md R285, R286): which location each address names, and
what a READ and a WRITE of it do. The register map is one list here, tied to the model's regAt and viewReg by lemmas.
-/

namespace Sys2Proof.Machine

open Sys2Proof.Spec

/-! ### The register map -/

/-- The register map of R84 as a list. -/
def registerMap : List (Nat × Reg) :=
  [(0x000, .ctrl), (0x004, .kp), (0x008, .ki), (0x00C, .loopRate), (0x010, .pllRatio), (0x014, .refInc),
   (0x018, .lutN), (0x01C, .nomIdx), (0x020, .ppmRange), (0x024, .sdmLimits), (0x040, .arg0), (0x044, .arg1),
   (0x048, .cmd), (0x04C, .result0), (0x050, .result1), (0x054, .status), (0x080, .aCtrl), (0x084, .aKp),
   (0x088, .aKi), (0x08C, .aLoopRate), (0x090, .aLutN), (0x094, .aNomIdx), (0x098, .aSdmLimits),
   (0x0A0, .mclkExpInc), (0x0A4, .refExpInc), (0x0A8, .scaleNumLo), (0x0AC, .scaleNumHi), (0x0B0, .maxDiff),
   (0x0B4, .windup), (0x0C0, .loopCounter), (0x0C4, .mclkLast), (0x0C8, .refLast), (0x0CC, .lastDiff),
   (0x0D0, .accum), (0x0D4, .lastControl), (0x0D8, .lockCountdown), (0x0DC, .currentValue), (0x0E0, .slot),
   (0x0E4, .sdmHold), (0x0E8, .sdmE1), (0x0EC, .sdmE2), (0x0F0, .sdmOut)]

theorem mem_registerMap_of_regAt {n : Nat} {r : Reg} (h : regAt n = some r) : (n, r) ∈ registerMap := by
  unfold regAt at h
  split at h <;> cases h <;> simp [registerMap]

theorem regAt_of_mem_registerMap {n : Nat} {r : Reg} (h : (n, r) ∈ registerMap) : regAt n = some r :=
  (by decide : ∀ p ∈ registerMap, regAt p.1 = some p.2) (n, r) h

/-- R81, R84: every register stands at an aligned offset below the LUT window. -/
theorem offset_of_regAt {n : Nat} {r : Reg} (h : regAt n = some r) : n % 4 = 0 ∧ n < 0x40000 :=
  (by decide : ∀ p ∈ registerMap, p.1 % 4 = 0 ∧ p.1 < 0x40000) (n, r) (mem_registerMap_of_regAt h)

/-! ### Which location an address names -/

theorem aligned_iff (a : Addr) : a.extractLsb' 0 2 = 0#2 ↔ a.toNat % 4 = 0 := by
  rw [← BitVec.toNat_inj]
  simp

theorem locate_of_misaligned {s : State} {a : Addr} (h : a.toNat % 4 ≠ 0) : s.locate a = none := by
  rw [State.locate, if_pos (mt (aligned_iff a).1 h)]

theorem locate_below_window {s : State} {a : Addr} (h4 : a.toNat % 4 = 0) (hlt : a.toNat < 0x40000) :
    s.locate a = (regAt a.toNat).map .reg := by
  rw [State.locate, if_neg (not_not.2 ((aligned_iff a).2 h4)), if_pos hlt]

theorem locate_in_window {s : State} {a : Addr} {i : Nat} (ha : a.toNat = lutAddr i) (hi : i < s.params.lutDepth) :
    s.locate a = some (.lut i) := by
  unfold lutAddr at ha
  have hq : (a.toNat - 0x40000) / 4 = i := by omega
  rw [State.locate, if_neg (not_not.2 ((aligned_iff a).2 (by omega))), if_neg (by omega), hq, if_pos hi]

theorem locate_above_window {s : State} {a : Addr} (h : 0x40000 + 4 * s.params.lutDepth ≤ a.toNat) :
    s.locate a = none := by
  by_cases h4 : a.toNat % 4 = 0
  · rw [State.locate, if_neg (not_not.2 ((aligned_iff a).2 h4)), if_neg (by omega), if_neg (by omega)]
  · exact locate_of_misaligned h4

theorem locate_register {s : State} {off : Nat} {r : Reg} (h : regAt off = some r) :
    s.locate (BitVec.ofNat 20 off) = some (.reg r) := by
  obtain ⟨h4, hlt⟩ := offset_of_regAt h
  have hoff : (BitVec.ofNat 20 off).toNat = off := Nat.mod_eq_of_lt (by omega)
  rw [locate_below_window (by rwa [hoff]) (by rwa [hoff]), hoff, h]
  rfl

/-! ### READ and WRITE by location -/

theorem exec_read_of_locate {s : State} {a : Addr} {l : Location} (h : s.locate a = some l) :
    exec (.read a) s = .next { s with readLog := s.readLog ++ [s.view l] } := by
  show Host.Outcome.next (busRead a s) = _
  simp only [busRead, State.readValue, h]

theorem exec_read_of_unmapped {s : State} {a : Addr} (h : s.locate a = none) :
    exec (.read a) s = .next { s.raiseError errBus with readLog := s.readLog ++ [0#32] } := by
  show Host.Outcome.next (busRead a s) = _
  simp only [busRead, State.readValue, h, State.raiseError_readLog]

theorem exec_write_of_unmapped {s : State} {a : Addr} (d : Word) (h : s.locate a = none) :
    exec (.write a d) s = .next (s.raiseError errBus) := by
  show Host.Outcome.next (busWrite a d s) = _
  simp only [busWrite, h]

theorem exec_write_register {off : Nat} {r : Reg} (h : regAt off = some r) (d : Word) (s : State) :
    exec (.write (BitVec.ofNat 20 off) d) s = .next (writeReg r d s) := by
  show Host.Outcome.next (busWrite _ d s) = _
  simp only [busWrite, locate_register h]

theorem exec_write_entry {s : State} {a : Addr} {i : Nat} (d : Word) (h : s.locate a = some (.lut i)) :
    exec (.write a d) s = .next (s.lutWrite i (d.extractLsb' 0 16)) := by
  show Host.Outcome.next (busWrite a d s) = _
  simp only [busWrite, h]

/-! ### What a READ of a register returns -/

theorem toNat_append_eq_add {m n : Nat} (x : BitVec m) (y : BitVec n) :
    (x ++ y).toNat = x.toNat * 2 ^ n + y.toNat := by
  rw [BitVec.toNat_append, ← Nat.shiftLeft_add_eq_or_of_lt y.isLt, Nat.shiftLeft_eq]

/-- R46: the STATUS image is the sum of its fields, each at its place. -/
theorem statusWord_eq (s : State) :
    s.statusWord = BitVec.ofNat 32 (s.lock.status.toNat + 4 * s.seq.firstLoop.toNat + 8 * s.pfd.resync.toNat +
      16 * s.status.initialised.toNat + 32 * s.status.fatal.toNat + 64 * s.mailbox.full.toNat +
      2 ^ 8 * s.status.errCode.toNat + 2 ^ 16 * s.status.cfgCause.toNat) := by
  apply BitVec.eq_of_toNat_eq
  simp only [State.statusWord, toNat_append_eq_add, BitVec.toNat_ofBool, BitVec.toNat_ofNat]
  have := s.lock.status.isLt
  have := s.seq.firstLoop.toNat_lt
  have := s.pfd.resync.toNat_lt
  have := s.status.initialised.toNat_lt
  have := s.status.fatal.toNat_lt
  have := s.mailbox.full.toNat_lt
  have := s.status.errCode.isLt
  have := s.status.cfgCause.isLt
  omega

theorem scaleNum_low (s : State) : s.derived.scaleNum.extractLsb' 0 32 = BitVec.ofNat 32 (s.snum % 2 ^ 32) := by
  apply BitVec.eq_of_toNat_eq
  simp [State.snum]

theorem scaleNum_high (s : State) : s.derived.scaleNum.extractLsb' 32 32 = BitVec.ofNat 32 (s.snum / 2 ^ 32) := by
  apply BitVec.eq_of_toNat_eq
  simp [State.snum, Nat.shiftRight_eq_div_pow]

/-- R285: the read values of the map are the registers' views. -/
theorem readMap_eq (s : State) : readMap s = registerMap.map fun p => (p.1, s.viewReg p.2) := by
  simp only [readMap, registerMap, List.map_cons, List.map_nil, List.cons_append, List.nil_append, State.viewReg,
    statusWord_eq, scaleNum_low, scaleNum_high, BitVec.ofNat_toNat, BitVec.signExtend]

theorem mem_readMap {s : State} {off : Nat} {w : Word} (h : (off, w) ∈ readMap s) :
    ∃ r, regAt off = some r ∧ s.viewReg r = w := by
  rw [readMap_eq] at h
  obtain ⟨⟨n, r⟩, hr, heq⟩ := List.mem_map.1 h
  cases heq
  exact ⟨r, regAt_of_mem_registerMap hr, rfl⟩

/-- Settles O51: the entries of the map are registers with their views, and a READ of a register returns its view. -/
theorem readReturnsTheRegisterView : Obligations.ReadReturnsTheRegisterView := by
  intro s off w h
  obtain ⟨r, hr, rfl⟩ := mem_readMap h
  exact exec_read_of_locate (locate_register hr)

/-! ### Rejected transactions -/

theorem regAt_eq_none {s : State} {n : Nat} (h : n ∉ (readMap s).map Prod.fst) : regAt n = none := by
  by_contra hne
  obtain ⟨r, hr⟩ := Option.ne_none_iff_exists'.1 hne
  refine h (List.mem_map.2 ⟨(n, s.viewReg r), ?_, rfl⟩)
  rw [readMap_eq]
  exact List.mem_map.2 ⟨(n, r), mem_registerMap_of_regAt hr, rfl⟩

/-- R83, R85: a rejected address names no location. -/
theorem locate_of_rejected {s : State} {a : Addr} (h : Rejected s a) : s.locate a = none := by
  rcases h with h | ⟨hlt, hn⟩ | h
  · exact locate_of_misaligned h
  · by_cases h4 : a.toNat % 4 = 0
    · rw [locate_below_window h4 hlt, regAt_eq_none hn, Option.map_none]
    · exact locate_of_misaligned h4
  · exact locate_above_window h

/-- Settles O52: a transaction at no location raises BUS, and a READ returns 0. -/
theorem rejectedTransactionOnlySetsBus : Obligations.RejectedTransactionOnlySetsBus := fun _ _ d _ h =>
  ⟨exec_read_of_unmapped (locate_of_rejected h), exec_write_of_unmapped d (locate_of_rejected h)⟩

/-! ### The LUT window -/

/-- R86: the window has room for LUT_DEPTH entries. -/
theorem locate_entry {s : State} {i : Nat} (hp : s.params.Legal) (hi : i < s.params.lutDepth) :
    s.locate (BitVec.ofNat 20 (0x40000 + 4 * i)) = some (.lut i) := by
  obtain ⟨-, -, -, -, hdepth⟩ := hp
  exact locate_in_window (Nat.mod_eq_of_lt (by omega)) hi

/-- Settles O53: the laws of a read after a write to the LUT RAM, at the location the window's address names. -/
theorem lutWindowStoresOneEntry : Obligations.LutWindowStoresOneEntry := by
  intro s i d hp hi
  have hl := locate_entry hp hi
  refine ⟨s.lutWrite i (d.extractLsb' 0 16), exec_write_entry d hl, rfl, ?_, ?_, ?_, ?_⟩
  · rw [State.lutRead_lutWrite_same, BitVec.extractLsb'_toNat, Nat.shiftRight_zero]
  · exact fun a h0 h1 => s.readByte_lutWrite_other _ h0 h1
  · exact fun j hj => s.lutRead_lutWrite_other _ hj
  · rw [exec_read_of_locate hl, BitVec.ofNat_toNat]
    rfl

/-! ### WRITEs to registers -/

/-- The read-only registers of R84. -/
def Reg.readOnly : Reg → Bool
  | .ctrl | .kp | .ki | .loopRate | .pllRatio | .refInc | .lutN | .nomIdx | .ppmRange | .sdmLimits | .arg0 | .arg1
  | .cmd | .status => false
  | _ => true

/-- R88: a read-only register ignores a WRITE. -/
theorem writeReg_readOnly {r : Reg} (h : r.readOnly = true) (d : Word) (s : State) : writeReg r d s = s := by
  cases r <;> cases h <;> rfl

theorem readOnlyOffsets_readOnly {off : Nat} (h : off ∈ readOnlyOffsets) :
    ∃ r, regAt off = some r ∧ r.readOnly = true :=
  (Option.any_eq_true _ _).1 ((by decide : ∀ n ∈ readOnlyOffsets, (regAt n).any Reg.readOnly = true) off h)

/-- Settles O54: each address names its register, and a WRITE to a register is writeReg's rule for it. -/
theorem writeReachesExactlyItsRegister : Obligations.WriteReachesExactlyItsRegister := by
  intro s d
  have wr {off : Nat} {r : Reg} (h : regAt off = some r) := exec_write_register h d s
  refine ⟨wr (r := .ctrl) rfl, wr (r := .kp) rfl, wr (r := .ki) rfl, wr (r := .loopRate) rfl, wr (r := .pllRatio) rfl,
    wr (r := .refInc) rfl, wr (r := .lutN) rfl, wr (r := .nomIdx) rfl, wr (r := .ppmRange) rfl, wr (r := .sdmLimits) rfl,
    wr (r := .arg0) rfl, wr (r := .arg1) rfl, wr (r := .status) rfl, ?_⟩
  intro off hoff
  obtain ⟨r, hr, hro⟩ := readOnlyOffsets_readOnly hoff
  rw [wr hr, writeReg_readOnly hro]

end Sys2Proof.Machine
end

section
/-!
PROOFS. The encoding (spec/30_encoding.md R110-R118): which words are commands, what the fields of a bus header decode to,
and that a command is a WRITE of its word to CMD.
-/

namespace Sys2Proof

/-- Settles O1: the round trip, operation by operation. -/
theorem decodeOfEncodeIsTheOperation : Obligations.DecodeOfEncodeIsTheOperation := fun _ h => decode_encode h

/-! ### Command words -/

/-- R115: the words below 8 are the eight command words. -/
theorem exists_encodeCommand {w : Word} (h : w.toNat < 8) : ∃ c, encodeCommand c = w := by
  have hw : BitVec.ofNat 32 w.toNat = w := by simp
  rw [← hw]
  interval_cases w.toNat
  exacts [⟨.nop, rfl⟩, ⟨.init, rfl⟩, ⟨.sample, rfl⟩, ⟨.pfd, rfl⟩, ⟨.pi, rfl⟩, ⟨.lut, rfl⟩, ⟨.publish, rfl⟩,
    ⟨.sdmTick, rfl⟩]

/-- R114: a word that is no command is refused as an illegal one. -/
theorem eq_illegalCommand_of_decodeCommand {w : Word} {e : DecodeError} (h : decodeCommand w = .error e) :
    e = .illegalCommand := by
  unfold decodeCommand at h
  split at h
  · cases h; rfl
  · split at h <;> cases h; rfl

theorem decodeCommand_of_ge {w : Word} (h : 8 ≤ w.toNat) : decodeCommand w = .error .illegalCommand := by
  cases hd : decodeCommand w with
  | ok c => exact absurd (toNat_lt_of_decodeCommand hd) (by omega)
  | error e => rw [eq_illegalCommand_of_decodeCommand hd]

/-- Settles O2: the words below 8 are the commands' own, and no other word decodes to a command. -/
theorem commandDecoderIsTotalOnWords : Obligations.CommandDecoderIsTotalOnWords := by
  intro w
  rcases Nat.lt_or_ge w.toNat 8 with hlt | hge
  · obtain ⟨c, rfl⟩ := exists_encodeCommand hlt
    exact .inl ⟨hlt, c, decodeCommand_encodeCommand c, rfl⟩
  · exact .inr ⟨hge, decodeCommand_of_ge hge⟩

/-! ### Bus headers -/

/-- R117: W is bit 31 of a header and ADDR its bits 19 to 0. -/
theorem busHeader_toNat (w : Bool) (a : Addr) : (busHeader w a).toNat = (if w then 2 ^ 31 else 0) + a.toNat := by
  have ha : a.toNat < 2 ^ 31 := by omega
  have hext : (a.setWidth 32).toNat = a.toNat := BitVec.toNat_setWidth_of_le (by decide)
  cases w
  · simp [busHeader, -BitVec.toNat_setWidth, hext]
  · simpa [busHeader, -BitVec.toNat_setWidth, hext] using (Nat.two_pow_add_eq_or_of_lt ha 1).symm

/-- R117: a header with RSV zero is the one its W and ADDR fields make. -/
theorem eq_busHeader_of_reserved_zero {h : Word} (hr : h.toNat / 2 ^ 20 % 2 ^ 11 = 0) :
    h = busHeader (decide (2 ^ 31 ≤ h.toNat)) (BitVec.ofNat 20 h.toNat) := by
  apply BitVec.eq_of_toNat_eq
  rw [busHeader_toNat, BitVec.toNat_ofNat]
  simp only [decide_eq_true_eq]
  split <;> omega

/-- R117: the decoder refuses a header with RSV non-zero. -/
theorem decode_of_reserved {h : Word} (d : Word) (hr : h.toNat / 2 ^ 20 % 2 ^ 11 ≠ 0) :
    decode (.bus h d) = .error .reservedHeader := by
  refine if_pos fun h0 => hr ?_
  simpa [Nat.shiftRight_eq_div_pow] using congrArg BitVec.toNat h0

/-- Settles O3: a header with RSV zero is the encoder's header of its fields, so the round trip's lemmas decode it. -/
theorem busDecoderReadsEveryField : Obligations.BusDecoderReadsEveryField := by
  intro h d
  refine ⟨decode_of_reserved d, fun hr hw => ?read, fun hr hw hne => ?write, fun hh hd => ?command⟩
  case read =>
    have heq := eq_busHeader_of_reserved_zero hr
    rw [decide_eq_false (by omega)] at heq
    exact (congrArg (decode <| .bus · d) heq).trans (decode_read _ d)
  case write =>
    have heq := eq_busHeader_of_reserved_zero hr
    rw [decide_eq_true hw] at heq
    refine (congrArg (decode <| .bus · d) heq).trans (decode_write fun ha => ?_)
    have : h.toNat % 2 ^ 20 = 0x48 := by simpa [cmdAddr] using congrArg BitVec.toNat ha
    exact hne.resolve_left (not_not.2 this)
  case command =>
    obtain ⟨c, rfl⟩ := exists_encodeCommand hd
    exact ⟨c, rfl, hh ▸ decode_encodeCommandWrite c⟩

/-- Settles O4: seven of the words are the raw forms of their operations, and the eighth has RSV non-zero. -/
theorem sampleWordsDecode : Obligations.SampleWordsDecode :=
  ⟨decode_encode (i := .pfd) rfl, decode_encode (i := .write 0x048#20 0x108#32) rfl,
    decode_encode (i := .read 0x054#20) rfl, decode_encode (i := .write 0x4001C#20 0x1070#32) rfl,
    decode_of_reserved 0#32 (by decide), decode_encode (i := .edge 65024#16 50#16) rfl,
    decode_encode (i := .tick) rfl, decode_encode (i := .rst) rfl⟩

end Sys2Proof

namespace Sys2Proof.Machine

/-! ### Commands by their words -/

@[simp] theorem execute_encodeCommand (c : Command) (s : State) : execute (encodeCommand c) s = runCommand c s := by
  rw [execute, decodeCommand_encodeCommand]

/-- Settles O50: CMD's address names CMD, where a command's word is executed as the command. -/
theorem commandIsAWriteToCmd : Obligations.CommandIsAWriteToCmd := by
  intro c s
  calc exec (.write 0x048#20 (encodeCommand c)) s
      = .next (writeReg .cmd (encodeCommand c) s) := exec_write_register (off := 0x048) rfl _ s
    _ = .next (runCommand c s) := congrArg Host.Outcome.next (execute_encodeCommand c s)
    _ = exec c.instr s := (exec_instr c s).symm

end Sys2Proof.Machine
end

section
/-!
PROOFS. The fixed-point helpers (spec/40_arith_helpers.md R140-R150). The ring helpers are facts about the one 16-bit word
a - b, whose signed and unsigned readings are the wraps of the exact difference.
-/

namespace Sys2Proof.Machine

open Sys2Proof.Spec

/-! ### Words of an exact value -/

theorem toNat_ofInt_eq_unsigned (n : Nat) (x : Int) : ((BitVec.ofInt n x).toNat : Int) = unsigned n x := by
  have hpos : ((2 ^ n : Nat) : Int) ≠ 0 := by exact_mod_cast (Nat.two_pow_pos n).ne'
  rw [BitVec.toNat_ofInt, Int.toNat_of_nonneg (Int.emod_nonneg x hpos), unsigned]

theorem sub_eq_ofInt {n : Nat} (a b : BitVec n) : a - b = BitVec.ofInt n ((a.toNat : Int) - b.toNat) := by
  apply BitVec.eq_of_toInt_eq
  rw [BitVec.toInt_sub, BitVec.toInt_ofInt, BitVec.toInt_eq_toNat_bmod a, BitVec.toInt_eq_toNat_bmod b,
    ← Int.sub_bmod]

theorem toInt_sub_eq_wrap {n : Nat} (a b : BitVec n) : (a - b).toInt = wrap n ((a.toNat : Int) - b.toNat) := by
  rw [sub_eq_ofInt, BitVec.toInt_ofInt, wrap]

theorem toNat_sub_eq_unsigned {n : Nat} (a b : BitVec n) :
    ((a - b).toNat : Int) = unsigned n ((a.toNat : Int) - b.toNat) := by
  rw [sub_eq_ofInt, toNat_ofInt_eq_unsigned]

/-! ### The wraparound comparison and difference -/

theorem after_iff_toInt_neg (a b : Half) : after a b = true ↔ (b - a).toInt < 0 := decide_eq_true_iff

/-- R140: the half of the ring that follows b, its far end included. -/
theorem after_iff_toNat_sub (a b : Half) : after a b = true ↔ 1 ≤ (a - b).toNat ∧ (a - b).toNat ≤ 32768 := by
  rw [after_iff_toInt_neg, BitVec.toInt_neg_iff]
  bv_omega

/-- The signed difference changes sign with its arguments, but for the half-range word, which is its own negative. -/
theorem toInt_sub_eq_neg {a b : Half} (h : a - b ≠ 0x8000#16) : (a - b).toInt = -(b - a).toInt := by
  have hneg : (-(a - b)).toInt = -(a - b).toInt := BitVec.toInt_neg_of_ne_intMin h
  rw [← neg_sub a b, hneg, neg_neg]

/-- R141: both branches of the comparison give the signed word a - b. -/
theorem diff16_eq_toInt_sub (a b : Half) : diff16 a b = (a - b).toInt := by
  by_cases h : after a b = true
  · exact if_pos h
  · have hne : b - a ≠ 0x8000#16 := fun he => h ((after_iff_toInt_neg a b).2 (by rw [he]; decide))
    rw [diff16, if_neg h, toInt_sub_eq_neg hne, neg_neg]

/-- Settles O13: the model's difference is the signed word a - b, which is -32768 for one word alone. -/
theorem diff16IsTheRingDifference : Obligations.Diff16IsTheRingDifference := by
  intro a b
  have hring : diff16 a b = wrap 16 ((a.toNat : Int) - b.toNat) := by
    rw [diff16_eq_toInt_sub, toInt_sub_eq_wrap]
  have hlo : -2 ^ 15 ≤ (a - b).toInt := BitVec.le_toInt _
  have hhi : (a - b).toInt < 2 ^ 15 := BitVec.toInt_lt
  refine ⟨?branches, hring, ?low, ?high, ?halfRange⟩
  case branches => rw [diff16, toInt_sub_eq_wrap, toInt_sub_eq_wrap]
  case low => rw [diff16_eq_toInt_sub]; omega
  case high => rw [diff16_eq_toInt_sub]; omega
  case halfRange =>
    rw [diff16_eq_toInt_sub, ← toNat_sub_eq_unsigned, BitVec.toInt_eq_toNat_cond]
    have := (a - b).isLt
    split <;> omega

/-- Settles O14: rotation keeps the word a - b, exchange negates it, and the half-range word is its own negative. -/
theorem diff16RotationAndAntisymmetry : Obligations.Diff16RotationAndAntisymmetry := by
  intro a b k
  simp only [diff16_eq_toInt_sub]
  refine ⟨?rotation, toInt_sub_eq_neg, fun h => ?halfRange, ?same⟩
  case rotation => rw [add_sub_add_right_eq_sub]
  case halfRange =>
    have hswap : b - a = 0x8000#16 := by rw [← neg_sub a b, h]; decide
    rw [h, hswap]
    decide
  case same => rw [sub_self]; decide

/-- Settles O12: the comparison reads the sign of b - a, which is the half of the ring the word a - b lies in. -/
theorem afterIsTheFollowingHalfOfTheRing : Obligations.AfterIsTheFollowingHalfOfTheRing := by
  intro a b
  have hlt := (a - b).isLt
  simp only [← toInt_sub_eq_wrap, ← toNat_sub_eq_unsigned]
  refine ⟨after_iff_toInt_neg a b, ?follows, ?doesNotFollow⟩
  case follows => rw [after_iff_toNat_sub]; omega
  case doesNotFollow => rw [← Bool.not_eq_true, after_iff_toNat_sub]; omega

/-! ### The nearest level -/

theorem qround_zero (v : Int) : qround v 0 = v := if_pos rfl

theorem qround_succ (v : Int) (q : Nat) : qround v (q + 1) = (v + (2 ^ q : Nat)) / (2 ^ (q + 1) : Nat) :=
  if_neg q.succ_ne_zero

/-- R150: the quotient's remainder is the distance to the level, less half a step. -/
theorem sub_qround_succ_mul (v : Int) (q : Nat) :
    v - qround v (q + 1) * (2 ^ (q + 1) : Nat) = (v + (2 ^ q : Nat)) % (2 ^ (q + 1) : Nat) - (2 ^ q : Nat) := by
  have hdiv := Int.emod_add_ediv_mul (v + (2 ^ q : Nat)) (2 ^ (q + 1) : Nat)
  rw [qround_succ]
  linarith

/-- Settles O17: the remainder of a division by a step of 2^Q lies in one step, from 0. -/
theorem quantizerTakesTheNearestLevel : Obligations.QuantizerTakesTheNearestLevel := by
  intro v q
  refine ⟨qround_zero v, fun hq => ?_⟩
  obtain ⟨q, rfl⟩ := Nat.exists_eq_add_of_le' hq
  have hstep : ((2 ^ (q + 1) : Nat) : Int) = 2 * (2 ^ q : Nat) := by exact_mod_cast pow_succ' 2 q
  have hpos : (0 : Int) < (2 ^ (q + 1) : Nat) := by exact_mod_cast Nat.two_pow_pos (q + 1)
  have hlo := Int.emod_nonneg (v + (2 ^ q : Nat)) hpos.ne'
  have hhi := Int.emod_lt_of_pos (v + (2 ^ q : Nat)) hpos
  rw [Nat.add_sub_cancel, sub_qround_succ_mul]
  exact ⟨qround_succ v q, by linarith, by linarith⟩

/-! ### The saturating sum and the triple product -/

theorem clamp_of_lt {x lo hi : Int} (h : lo ≤ hi) (hx : x < lo) : clamp x lo hi = lo := by
  rw [clamp, max_eq_right hx.le, min_eq_left h]

theorem clamp_of_mem {x lo hi : Int} (hlo : lo ≤ x) (hhi : x ≤ hi) : clamp x lo hi = x := by
  rw [clamp, max_eq_left hlo, min_eq_left hhi]

theorem clamp_of_gt {x lo hi : Int} (hx : hi < x) : clamp x lo hi = hi :=
  min_eq_right (hx.le.trans (le_max_left x lo))

/-- Settles O15: the saturating sum is the clamp of the exact sum to an interval that a limit not negative leaves
non-empty. -/
theorem saturatingAccumulationClampsTheExactSum : Obligations.SaturatingAccumulationClampsTheExactSum := by
  intro acc e limit h
  have hint : -limit ≤ limit := by omega
  exact ⟨clamp_of_lt hint, clamp_of_mem, clamp_of_gt, clamp_mem hint⟩

/-- Settles O16: the word of a product is the product of the words, and words multiply in any grouping. -/
theorem tripleProductIsModular : Obligations.TripleProductIsModular := by
  intro x y z
  have hleft : mul64u x y z = BitVec.ofInt 64 x * BitVec.ofInt 64 y * BitVec.ofInt 64 z := by
    rw [mul64u, BitVec.ofInt_mul, BitVec.ofInt_mul]
  exact ⟨toNat_ofInt_eq_unsigned 64 (x * y * z), hleft, hleft.trans (mul_assoc _ _ _)⟩

end Sys2Proof.Machine
end

section
/-!
PROOFS. The phase-frequency detector (spec/41_pfd.md R160-R170). Its ring arithmetic wraps exact integers, so its function
is the one Sys2Proof.Spec gives. The width budget that INIT checks keeps its product from wrapping, and with the rounding
bias the reciprocal multiply is exact at the nominal period.
-/

namespace Sys2Proof.Machine

open Sys2Proof.Spec

/-! ### Wraps of exact values -/

theorem unsigned_of_mem {n : Nat} {x : Int} (h0 : 0 ≤ x) (hx : x < (2 ^ n : Nat)) : unsigned n x = x :=
  Int.emod_eq_of_lt h0 hx

/-- The signed wrap does not see an unsigned wrap of the same width inside it. -/
theorem wrap_sub_unsigned (n : Nat) (x y : Int) : wrap n (x - unsigned n y) = wrap n (x - y) := by
  rw [wrap, wrap, unsigned, ← Int.emod_bmod, Int.sub_emod_emod, Int.emod_bmod]

theorem diff16_eq_wrap (a b : Half) : diff16 a b = wrap 16 ((a.toNat : Int) - b.toNat) := by
  rw [diff16_eq_toInt_sub, toInt_sub_eq_wrap]

theorem diff16_add16 (a b : Half) (k : Int) : diff16 a (add16 b k) = wrap 16 ((a.toNat : Int) - (b.toNat + k)) := by
  rw [diff16_eq_wrap, add16, toNat_ofInt_eq_unsigned, wrap_sub_unsigned]

theorem diff16_self (a : Half) : diff16 a a = 0 := by
  obtain ⟨-, -, -, hself⟩ := diff16RotationAndAntisymmetry a a 0
  exact hself

theorem add16_natCast (a : Half) (k : Nat) : add16 a k = BitVec.ofNat 16 (a.toNat + k) :=
  BitVec.ofInt_natCast 16 (a.toNat + k)

/-! ### The PFD over exact integers -/

theorem toNat_mul64u (x y z : Int) : ((mul64u x y z).toNat : Int) = unsigned 64 (x * y * z) :=
  (tripleProductIsModular x y z).1

theorem refDiff_eq (s : State) (r : Half) : s.refDiff r = refDeviation s r := diff16_add16 r s.pfd.refLast s.er

/-- R164: the logical shift is a division, the truncation a wrap. -/
theorem toNat_scaledInc (s : State) (deviation : Int) :
    ((s.scaledInc deviation).toNat : Int) = increment s deviation := by
  rw [State.scaledInc, BitVec.toNat_setWidth, BitVec.toNat_ushiftRight, Nat.shiftRight_eq_div_pow, increment,
    ← toNat_mul64u]
  exact_mod_cast rfl

/-- R165 with R161 and R162. -/
theorem diff16_mclkExp (s : State) (m r : Half) : diff16 m (s.mclkExp r) = phaseError s m r := by
  unfold State.mclkExp phaseError expectedSample
  split
  · exact diff16_add16 ..
  · rw [diff16_add16, toNat_scaledInc, refDiff_eq]

/-- R160: what the PFD function returns and writes. -/
theorem pfdFunction_eq (m r : Half) (s : State) :
    pfdFunction m r s =
      ({ phaseError := phaseError s m r, resync := desync s m r }, { s with pfd := pfdAfter s m r }) := by
  rw [pfdFunction, diff16_mclkExp]
  rfl

theorem phaseError_mem (s : State) (m r : Half) : -32768 ≤ phaseError s m r ∧ phaseError s m r ≤ 32767 := by
  obtain ⟨-, -, hlo, hhi, -⟩ := diff16IsTheRingDifference m (s.mclkExp r)
  rw [← diff16_mclkExp]
  exact ⟨hlo, hhi⟩

/-! ### The PFD command -/

theorem exec_pfd_of_running {s : State} (h : Running s) : exec .pfd s = .next (pfdRule s) :=
  congrArg Host.Outcome.next (gate_run h.1 (fun _ => h.2) nofun)

theorem argMclk_eq (s : State) : s.argMclk = BitVec.ofNat 16 s.host.arg0.toNat := rfl

theorem argRef_eq (s : State) : s.argRef = BitVec.ofNat 16 s.host.arg1.toNat := rfl

/-- Settles O18: a running block performs the command's rule, which is the PFD function of the two samples. -/
theorem pfdCommandComputesTheScaledPhaseError : Obligations.PfdCommandComputesTheScaledPhaseError := by
  intro s m r hrun hm hr
  refine ⟨?nextState, phaseError_mem s m r⟩
  case nextState => rw [exec_pfd_of_running hrun, pfdRule, argMclk_eq, argRef_eq, ← hm, ← hr, pfdFunction_eq]

/-! ### The width budget, R170 -/

/-- The product grows with the deviation, so the budget at the largest one covers every factor not negative. -/
theorem unsigned_product {em er snum : Nat} {deviation : Int} (budget : em * (er + 32767) * snum < 2 ^ 64)
    (hfactor : 0 ≤ er + deviation) (hmax : deviation ≤ 32767) :
    unsigned 64 (em * (er + deviation) * snum) = em * (er + deviation) * snum := by
  obtain ⟨factor, hf⟩ := Int.eq_ofNat_of_zero_le hfactor
  have hle : factor ≤ er + 32767 := by omega
  have hlt : em * factor * snum < 2 ^ 64 := lt_of_le_of_lt (by gcongr) budget
  rw [hf]
  exact unsigned_of_mem (by positivity) (by exact_mod_cast hlt)

theorem exec_init_of_not_fatal {s : State} (h : s.status.fatal = false) : exec .init s = .next (initRule s) :=
  congrArg Host.Outcome.next (gate_run h nofun nofun)

/-- R270: an INIT that does not end fatal accepted the configuration and loaded it. -/
theorem exec_init_accepted {s t : State} (hs : s.status.fatal = false) (hx : exec .init s = .next t)
    (ht : t.status.fatal = false) : Accepted s.staging s.params ∧ t = load s := by
  obtain rfl : initRule s = t := Host.Outcome.next.inj ((exec_init_of_not_fatal hs).symm.trans hx)
  rcases initRule_cases s with ⟨hc, hload⟩ | ⟨-, hfatal⟩
  · exact ⟨accepted_of_cfgCheck hc, hload⟩
  · rw [hfatal] at ht
    cases ht

/-- Settles O20: an accepted configuration meets check 6, the width budget, which bounds the product. -/
theorem acceptedConfigurationNeverWrapsTheProduct : Obligations.AcceptedConfigurationNeverWrapsTheProduct := by
  intro s t hp hs hx ht her
  obtain ⟨haccepted, rfl⟩ := exec_init_accepted hs hx ht
  have budget := (load_configured hp haccepted).widthBudget her
  refine ⟨budget, fun deviation _ hmax hfactor => ?_⟩
  rw [toNat_mul64u, unsigned_product budget hfactor hmax]

/-! ### The rounding bias, R169 -/

/-- With the bias, E_r times the reciprocal exceeds the shift's divisor by at most E_r. -/
theorem mul_div_succ_div {em er d : Nat} (her : er ≠ 0) (h : em * er < d) : em * er * (d / er + 1) / d = em := by
  have hlo : em * d ≤ em * (er * (d / er + 1)) :=
    Nat.mul_le_mul_left em (Nat.lt_mul_div_succ d (Nat.pos_of_ne_zero her)).le
  have hhi : em * (er * (d / er)) ≤ em * d := Nat.mul_le_mul_left em (Nat.mul_div_le d er)
  apply Nat.div_eq_of_lt_le <;> linarith

/-- Without it, E_r times the reciprocal falls short of the divisor, by less than E_r. -/
theorem mul_div_div_of_not_dvd {em er d : Nat} (her : er ≠ 0) (h : em * er < d) (hem : 1 ≤ em) (hd : ¬ er ∣ d) :
    em * er * (d / er) / d = em - 1 := by
  obtain ⟨e, rfl⟩ := Nat.exists_eq_add_of_le' hem
  have hshort : er * (d / er) < d := lt_of_le_of_ne (Nat.mul_div_le d er) fun heq => hd ⟨_, heq.symm⟩
  have hlo : (e + 1) * d ≤ (e + 1) * (er * (d / er + 1)) :=
    Nat.mul_le_mul_left _ (Nat.lt_mul_div_succ d (Nat.pos_of_ne_zero her)).le
  have hhi : (e + 1) * (er * (d / er)) < (e + 1) * d := Nat.mul_lt_mul_of_pos_left hshort e.succ_pos
  rw [Nat.add_sub_cancel]
  apply Nat.div_eq_of_lt_le <;> linarith

/-- At the nominal period the scaled increment is the unscaled one. -/
theorem increment_zero {s : State} (hc : Configured s) (her : s.er ≠ 0) (h : s.em * s.er < 2 ^ s.params.preDivBits) :
    increment s 0 = s.em := by
  have hsnum : s.snum = 2 ^ s.params.preDivBits / s.er + 1 := hc.scaleValue.trans (if_neg her)
  have hquot : (s.em * (s.er + 0) * s.snum : Int) / (2 ^ s.params.preDivBits : Nat) = s.em := by
    rw [hsnum, add_zero]
    exact_mod_cast mul_div_succ_div her h
  rw [increment, unsigned_product (hc.widthBudget her) (by omega) (by omega), hquot]
  exact unsigned_of_mem (Int.natCast_nonneg _) (by exact_mod_cast s.derived.mclkExpInc.isLt)

theorem scaledInc_zero {s : State} (hc : Configured s) (her : s.er ≠ 0)
    (h : s.em * s.er < 2 ^ s.params.preDivBits) : s.scaledInc 0 = s.derived.mclkExpInc :=
  BitVec.eq_of_toNat_eq (by exact_mod_cast (toNat_scaledInc s 0).trans (increment_zero hc her h))

/-- Settles O19: a reference sample one nominal period on has deviation 0, where the biased reciprocal is exact. -/
theorem roundingBiasMakesTheNominalCaseExact : Obligations.RoundingBiasMakesTheNominalCaseExact := by
  intro s hinv hinit her h
  have hinc : s.scaledInc 0 = s.derived.mclkExpInc := scaledInc_zero (hinv.configured hinit) her h
  refine ⟨hinc, ?expectedSample, mul_div_div_of_not_dvd her h⟩
  have hdev : s.refDiff (BitVec.ofNat 16 (s.pfd.refLast.toNat + s.er)) = 0 := by
    rw [← add16_natCast]
    exact diff16_self _
  rw [State.mclkExp, if_neg her, hdev, hinc]
  exact add16_natCast s.pfd.mclkLast s.em

end Sys2Proof.Machine
end

section
/-!
PROOFS. The PI controller (spec/42_pi.md R180-R186). Its function is the one Sys2Proof.Spec gives over exact integers.
The clamp keeps the accumulator within the windup limit, and with FRAC_BITS 16 a windup limit computed by INIT keeps the
shifted sum within 32 bits.
-/

namespace Sys2Proof.Machine

open Sys2Proof.Spec

/-! ### The PI controller over exact integers -/

/-- R181: the two orders of clamping agree on [-W_lim, W_lim], which is never empty. -/
theorem satAcc_eq_accumulate (s : State) (e : Int) : satAcc s.pi.accum.toInt e s.wlim = accumulate s e := by
  unfold satAcc clamp accumulate
  omega

theorem accumulate_mem (s : State) (e : Int) : -(s.wlim : Int) ≤ accumulate s e ∧ accumulate s e ≤ s.wlim := by
  rw [← satAcc_eq_accumulate]
  exact clamp_mem (by omega)

theorem narrow32_eq_wrap (x : Int) : narrow32 x = wrap 32 x := BitVec.toInt_ofInt x

/-- R180: what the PI function returns and writes. -/
theorem piFunction_eq (e : Int) (s : State) : piFunction e s = (controlSignal s e, { s with pi := piAfter s e }) := by
  rw [piFunction, satAcc_eq_accumulate, narrow32_eq_wrap]
  rfl

theorem toInt_accum_piAfter {s : State} (h : s.wlim ≤ 2147483647) (e : Int) :
    (piAfter s e).accum.toInt = accumulate s e := by
  obtain ⟨hlo, hhi⟩ := accumulate_mem s e
  exact toInt_ofInt_of_mem (by omega) (by omega) (by omega)

theorem toInt_lastControl_piAfter (s : State) (e : Int) : (piAfter s e).lastControl.toInt = controlSignal s e :=
  (BitVec.toInt_ofInt _).trans Int.bmod_bmod

/-! ### The PI command -/

theorem exec_pi_of_running {s : State} (h : Running s) : exec .pi s = .next (piRule s) :=
  congrArg Host.Outcome.next (gate_run h.1 (fun _ => h.2) nofun)

theorem argError_eq (s : State) : s.argError = wrap 16 s.host.arg0.toNat :=
  BitVec.toInt_ofNat' s.host.arg0.toNat

/-- Settles O21: a running block performs the command's rule, which is the PI function of the error in ARG0. -/
theorem piCommandIntegratesAndShifts : Obligations.PiCommandIntegratesAndShifts := by
  intro s e hrun he
  refine ⟨?nextState, fun hlim => ⟨toInt_accum_piAfter hlim e, accumulate_mem s e⟩⟩
  case nextState => rw [exec_pi_of_running hrun, piRule, argError_eq, ← he, piFunction_eq]

/-! ### Sequences of errors, R186 -/

theorem runErrors_append (es fs : List Int) (s : State) : runErrors (es ++ fs) s = runErrors fs (runErrors es s) := by
  induction es generalizing s with
  | nil => rfl
  | cons e es ih => exact ih (piFunction e s).2

theorem wlim_runErrors (es : List Int) (s : State) : (runErrors es s).wlim = s.wlim := by
  induction es generalizing s with
  | nil => rfl
  | cons e es ih => exact ih (piFunction e s).2

/-- Settles O22: the last update clamps, whatever the errors before it left, and none of them changes the limit. -/
theorem accumulatorStaysWithinTheWindupLimit : Obligations.AccumulatorStaysWithinTheWindupLimit := by
  intro s es e h
  rw [← wlim_runErrors es s] at h ⊢
  rw [runErrors_append]
  exact abs_le.2 (piFunction_accum h)

/-! ### The range of the control signal, R183 -/

theorem wrap_of_mem {n : Nat} {x : Int} (lo : -2 ^ (n - 1) ≤ x) (hi : x < 2 ^ (n - 1)) (hn : 0 < n) :
    wrap n x = x :=
  (BitVec.toInt_ofInt x).symm.trans (toInt_ofInt_of_mem lo hi hn)

/-- A quotient rounded down is no larger than a whole bound on the exact one. -/
theorem abs_ediv_le_of_abs_le_mul {x k d : Int} (hd : 0 < d) (h : |x| ≤ k * d) : |x / d| ≤ k := by
  obtain ⟨hlo, hhi⟩ := abs_le.1 h
  refine abs_le.2 ⟨(Int.le_ediv_iff_mul_le hd).2 (by linarith), ?_⟩
  calc x / d ≤ k * d / d := Int.ediv_le_ediv hd hhi
    _ = k := Int.mul_ediv_cancel k hd.ne'

/-- R182: the proportional product is at most 2^31 times 2^15. -/
theorem abs_proportional_le (kp : Word) {e : Int} (hlo : -32768 ≤ e) (hhi : e ≤ 32767) :
    |kp.toInt * e| ≤ 2 ^ 46 := by
  have hkp : |kp.toInt| ≤ 2 ^ 31 := abs_le.2 ⟨BitVec.le_toInt _, BitVec.toInt_lt.le⟩
  have he : |e| ≤ 2 ^ 15 := abs_le.2 ⟨by omega, by omega⟩
  calc |kp.toInt * e| = |kp.toInt| * |e| := abs_mul _ _
    _ ≤ 2 ^ 31 * 2 ^ 15 := by gcongr
    _ = 2 ^ 46 := by norm_num

/-- R53: W_lim is LUT_N * 2^FRAC_BITS over K_i, rounded down. -/
theorem ki_mul_wlim_le {s : State} (h : Configured s) :
    s.active.ki.toInt * s.wlim ≤ s.active.lutN.toNat * (2 ^ s.params.fracBits : Nat) := by
  rw [h.windupValue]
  split
  · have hki : s.active.ki.toInt = s.active.ki.toNat :=
      BitVec.toInt_eq_toNat_of_lt (BitVec.toInt_pos_iff.1 h.integralGainNonneg)
    rw [hki]
    exact_mod_cast Nat.mul_div_le _ _
  · simp only [Nat.cast_zero, mul_zero]
    positivity

theorem abs_integral_le {s : State} (h : Configured s) (e : Int) :
    |s.active.ki.toInt * accumulate s e| ≤ s.active.lutN.toNat * (2 ^ s.params.fracBits : Nat) := by
  have hacc : |accumulate s e| ≤ s.wlim := abs_le.2 (accumulate_mem s e)
  have hki : 0 ≤ s.active.ki.toInt := h.integralGainNonneg
  calc |s.active.ki.toInt * accumulate s e|
    _ = s.active.ki.toInt * |accumulate s e| := by rw [abs_mul, abs_of_nonneg hki]
    _ ≤ s.active.ki.toInt * s.wlim := by gcongr
    _ ≤ _ := ki_mul_wlim_le h

/-- R183: the bound on the shifted sum, for the default FRAC_BITS. -/
theorem abs_shiftedSum_le {s : State} (h : Configured s) (hfrac : s.params.fracBits = 16) {e : Int}
    (hlo : -32768 ≤ e) (hhi : e ≤ 32767) :
    |(s.active.kp.toInt * e + s.active.ki.toInt * accumulate s e) / 65536| ≤ 2 ^ 30 + s.active.lutN.toNat := by
  have hintegral := abs_integral_le h e
  rw [hfrac] at hintegral
  apply abs_ediv_le_of_abs_le_mul (by norm_num)
  calc _ ≤ |s.active.kp.toInt * e| + |s.active.ki.toInt * accumulate s e| := abs_add_le _ _
    _ ≤ 2 ^ 46 + s.active.lutN.toNat * (2 ^ 16 : Nat) := add_le_add (abs_proportional_le _ hlo hhi) hintegral
    _ = (2 ^ 30 + s.active.lutN.toNat) * 65536 := by push_cast; ring

/-- Settles O23: the shifted sum lies far inside 32 bits, since LUT_N is at most LUT_DEPTH. -/
theorem narrowingNeverChangesTheControlSignal : Obligations.NarrowingNeverChangesTheControlSignal := by
  intro s e hinv hinit hfrac hlo hhi
  have hconf : Configured s := hinv.configured hinit
  obtain ⟨-, -, -, -, hdepth⟩ := hinv.paramsLegal
  have hlut := hconf.lutLength.2
  have hbound := abs_shiftedSum_le hconf hfrac hlo hhi
  obtain ⟨hmin, hmax⟩ := abs_le.1 hbound
  have hsignal : controlSignal s e = (s.active.kp.toInt * e + s.active.ki.toInt * accumulate s e) / 65536 := by
    rw [controlSignal, hfrac]
    exact wrap_of_mem (by omega) (by omega) (by omega)
  rw [piFunction_eq]
  exact ⟨hbound, hsignal, (toInt_lastControl_piAfter s e).trans hsignal⟩

end Sys2Proof.Machine
end

section
/-!
PROOFS. The LUT selector and the lock state machine (spec/43_lut_lock.md R200-R210). With a table of at least one entry
a selection is the one Sys2Proof.Spec gives. In range it counts down to Locked, and whatever leaves Locked starts the
countdown again.
-/

namespace Sys2Proof.Machine

open Sys2Proof.Spec

/-! ### The selected index -/

/-- R201: one clamp to the table, which must not be empty. -/
theorem lutSelect_eq_selected {s : State} (h : 1 ≤ s.active.lutN.toNat) (c : Int) : s.lutSelect c = selected s c := by
  unfold State.lutSelect State.lutIndex selected
  split
  case isTrue => omega
  case isFalse => split <;> omega

/-- Settles O25: NOM - c falls as c rises, and a clamp keeps an order. -/
theorem selectionIsMonotoneAndInTheTable : Obligations.SelectionIsMonotoneAndInTheTable := by
  intro s c h
  rw [lutSelect_eq_selected h, lutSelect_eq_selected h]
  unfold selected
  omega

/-! ### One selection over exact integers -/

theorem lockAfter_of_inRange {s : State} {c : Int} (h : InRange s c) :
    lockAfter s c =
      { countdown := BitVec.ofNat 32 (s.lock.countdown.toNat - 1)
        status := if s.lock.countdown.toNat = 0 then locked else s.lock.status
        currentValue := s.lutRead (selected s c) } := by
  obtain ⟨hlow, hhigh⟩ := h
  rw [lockAfter, if_neg (by omega), if_neg (by omega)]
  rfl

/-- R202-R204: the model's lock machine takes the three ranges of the index apart as Sys2Proof.Spec does. -/
theorem lockNext_eq_lockAfter (s : State) (c : Int) : s.lockNext c (s.lutRead (selected s c)) = lockAfter s c := by
  unfold State.lockNext State.lutIndex
  split
  case isTrue hlow => exact (if_pos (by omega)).symm
  case isFalse hlow =>
    split
    case isTrue hhigh => exact ((if_neg (by omega)).trans (if_pos hhigh)).symm
    case isFalse hhigh =>
      rw [lockAfter_of_inRange ⟨by omega, by omega⟩]
      split
      case isTrue h0 => simp [h0]
      case isFalse h0 =>
        have hpos : s.lock.countdown.toNat ≠ 0 := by bv_omega
        have hdec : s.lock.countdown - 1#32 = BitVec.ofNat 32 (s.lock.countdown.toNat - 1) := by bv_omega
        rw [if_neg hpos, hdec]

/-- R201: what a selection returns and writes. -/
theorem lutFunction_eq {s : State} (h : 1 ≤ s.active.lutN.toNat) (c : Int) :
    lutFunction c s = (s.lutRead (selected s c), { s with lock := lockAfter s c }) := by
  rw [lutFunction, lutSelect_eq_selected h, lockNext_eq_lockAfter]

/-! ### The LUT command -/

theorem exec_lut_of_running {s : State} (h : Running s) : exec .lut s = .next (lutRule s) :=
  congrArg Host.Outcome.next (gate_run h.1 (fun _ => h.2) nofun)

theorem argControl_eq (s : State) : s.argControl = wrap 32 s.host.arg0.toNat :=
  BitVec.toInt_eq_toNat_bmod s.host.arg0

/-- Settles O24: a running block performs the command's rule, which is the selection for the control signal in ARG0. -/
theorem lutCommandSelectsAndTracksLock : Obligations.LutCommandSelectsAndTracksLock := by
  intro s c hrun hN hc
  rw [exec_lut_of_running hrun, lutRule, argControl_eq, ← hc, lutFunction_eq hN, BitVec.ofNat_toNat,
    BitVec.ofNat_toNat]
  rfl

/-! ### Streaks of in-range selections, R208 -/

/-- R204: an in-range selection counts down by one, and reaches Locked when the countdown had run out. -/
theorem lutFunction_lock_of_inRange {s : State} {c : Int} (h : InRange s c) :
    (lutFunction c s).2.lock.countdown.toNat = s.lock.countdown.toNat - 1 ∧
    (lutFunction c s).2.lock.status = if s.lock.countdown.toNat = 0 then locked else s.lock.status := by
  have hN : 1 ≤ s.active.lutN.toNat := by
    unfold InRange at h
    omega
  rw [lutFunction_eq hN, lockAfter_of_inRange h]
  exact ⟨Nat.mod_eq_of_lt (by omega), rfl⟩

/-- A streak counts down by its length, and reaches Locked when it is longer than the countdown it started from. -/
theorem runSelections_lock_of_inRange {cs : List Int} {s : State} (h : ∀ c ∈ cs, InRange s c) :
    (runSelections cs s).lock.countdown.toNat = s.lock.countdown.toNat - cs.length ∧
    (runSelections cs s).lock.status = if s.lock.countdown.toNat < cs.length then locked else s.lock.status := by
  induction cs generalizing s with
  | nil => exact ⟨rfl, rfl⟩
  | cons c cs ih =>
    obtain ⟨hc, hcs⟩ := List.forall_mem_cons.1 h
    obtain ⟨hcount, hstatus⟩ := lutFunction_lock_of_inRange hc
    obtain ⟨ihcount, ihstatus⟩ := ih (s := (lutFunction c s).2) hcs
    rw [hcount] at ihcount ihstatus
    rw [hstatus] at ihstatus
    rw [runSelections, ihcount, ihstatus, List.length_cons]
    refine ⟨by omega, ?status⟩
    by_cases h0 : s.lock.countdown.toNat = 0
    · simp [h0]
    · rw [if_neg h0]
      exact if_congr (by omega) rfl rfl

/-- Settles O26: a streak from a full countdown and an unlocked status. -/
theorem lockNeedsAStreakOfInRangeSelections : Obligations.LockNeedsAStreakOfInRangeSelections := by
  intro s cs hfull hunlocked hin
  obtain ⟨hcount, hstatus⟩ := runSelections_lock_of_inRange hin
  rw [hfull] at hcount hstatus
  refine ⟨hcount, ?locked, fun hle => ?unlocked⟩
  case locked =>
    rw [hstatus]
    split
    case isTrue hlt => exact iff_of_true rfl hlt
    case isFalse hge => exact iff_of_false hunlocked hge
  case unlocked => rw [hstatus, if_neg (by omega)]

/-! ### Leaving Locked, R210 -/

/-- Locked is left only with the countdown at LOCK_COUNT. -/
def LeavesLockedAtLockCount (s t : State) : Prop :=
  s.lock.status = locked → t.lock.status ≠ locked → t.lock.countdown = s.params.lockCount

theorem LeavesLockedAtLockCount.of_lock_eq {s t : State} (h : t.lock = s.lock) : LeavesLockedAtLockCount s t :=
  fun hl hne => absurd (h ▸ hl) hne

theorem lutFunction_lock (c : Int) (s : State) :
    (lutFunction c s).2.lock = s.lockNext c (s.lutRead (s.lutSelect c)) := rfl

/-- R202-R204: an index outside the table sets the countdown, one inside it does not leave Locked. -/
theorem lutFunction_leavesLocked (c : Int) (s : State) : LeavesLockedAtLockCount s (lutFunction c s).2 := by
  rw [LeavesLockedAtLockCount, lutFunction_lock]
  rcases lockNext_cases s c (s.lutRead (s.lutSelect c)) with hn | hn | ⟨-, hn⟩ | ⟨-, hn⟩ <;> rw [hn]
  · exact fun _ _ => rfl
  · exact fun _ _ => rfl
  · exact fun _ hne => absurd rfl hne
  · exact fun hl hne => absurd hl hne

theorem drive_leavesLocked (c : Int) (s : State) : LeavesLockedAtLockCount s (drive c s) := by
  cases hm : s.mode with
  | true => exact drive_of_sdmMode hm ▸ .of_lock_eq rfl
  | false => exact drive_of_lutMode hm ▸ lutFunction_leavesLocked c s

theorem controlUpdate_leavesLocked (m r : Half) (s : State) : LeavesLockedAtLockCount s (controlUpdate m r s).2 := by
  rcases controlUpdate_cases m r s with ⟨-, hu⟩ | ⟨-, -, hu⟩ | ⟨-, -, hu⟩ <;> rw [hu]
  · exact fun _ _ => rfl
  · exact .of_lock_eq rfl
  · exact drive_leavesLocked _ (piFunction _ (pfdFunction m r s).2).2

theorem edgeStep_leavesLocked (m r : Half) (s : State) : LeavesLockedAtLockCount s (edgeStep m r s).2 := by
  rcases edgeStep_cases m r s with ⟨-, hs⟩ | ⟨-, hs⟩ <;> rw [hs]
  · exact .of_lock_eq rfl
  · exact controlUpdate_leavesLocked m r { s with seq := { s.seq with loopCounter := 0#32 } }

theorem initRule_leavesLocked (s : State) : LeavesLockedAtLockCount s (initRule s) := by
  rcases initRule_cases s with ⟨-, hi⟩ | ⟨-, hi⟩ <;> rw [hi]
  · exact fun _ _ => rfl
  · exact .of_lock_eq rfl

/-- Settles O27: a selection, a sequencer step, INIT and RST are the operations that write the lock registers. -/
theorem leavingLockedRestartsTheCountdown : Obligations.LeavingLockedRestartsTheCountdown := by
  intro i s t h
  refine exec_elim (P := LeavesLockedAtLockCount s) h (.of_lock_eq rfl) ?error ?read ?readRejected ?clear ?stage
    ?hostRegs ?lutWrite ?init ?sample ?pfd ?pi ?lut ?publish ?sdmTick ?edge ?tick ?reset
  case init => exact fun _ => initRule_leavesLocked s
  case sample => exact fun _ => edgeStep_leavesLocked s.argMclk s.argRef s
  case lut => exact fun _ => lutFunction_leavesLocked s.argControl s
  case edge => exact fun m r _ => edgeStep_leavesLocked m r s
  case reset => exact fun _ _ => rfl
  case sdmTick => exact fun _ _ => .of_lock_eq (sdmTickRule_lock s)
  case tick => exact fun _ _ => .of_lock_eq (sdmStep_lock s)
  all_goals intros; exact .of_lock_eq rfl

end Sys2Proof.Machine
end

section
/-!
PROOFS. The mailbox and the sigma-delta modulator (spec/44_sdm.md R220-R234). A modulator step is the one Sys2Proof.Spec
gives over exact integers. With the input held and no tick clamping, the levels of a window telescope: they differ from the
input by the change of the shaped error, and a tick leaves its error within half a step.
-/

namespace Sys2Proof.Machine

open Sys2Proof.Spec

/-! ### The PUBLISH command -/

theorem exec_publish_of_running {s : State} (h : Running s) : exec .publish s = .next (publishRule s) :=
  congrArg Host.Outcome.next (gate_run h.1 (fun _ => h.2) nofun)

theorem publishRule_eq (s : State) : publishRule s = { s with mailbox := { slot := s.host.arg0, full := true } } := rfl

/-- Settles O28: a running block performs the command's rule, which is a send of ARG0. -/
theorem publishReplacesTheSlot : Obligations.PublishReplacesTheSlot := by
  intro s hrun
  rw [exec_publish_of_running hrun, publishRule_eq]

/-! ### One modulator step over exact integers -/

theorem sdmInput_of_empty {s : State} (h : s.mailbox.full = false) : sdmInput s = s.sdm.hold := by
  rw [sdmInput, h]
  rfl

/-- R228 in both cases: the mailbox is left empty, and the held word is the one the step modulates. -/
theorem receive_eq (s : State) :
    s.receive = { s with mailbox := { s.mailbox with full := false }, sdm := { s.sdm with hold := sdmInput s } } := by
  cases h : s.mailbox.full with
  | true => rw [receive_full h, sdmInput, if_pos h]
  | false => rw [receive_empty h, sdmInput_of_empty h, ← h]

/-- R150: rounding half a step up is the floor of v / 2^Q + 1/2, for Q = 0 too. -/
theorem qround_eq_floor (v : Int) (q : Nat) : qround v q = (2 * v + (2 ^ q : Nat)) / (2 ^ (q + 1) : Nat) := by
  cases q with
  | zero => rw [qround_zero]; omega
  | succ q =>
    have hhalf : ((2 ^ (q + 1) : Nat) : Int) = 2 * (2 ^ q : Nat) := by exact_mod_cast pow_succ' 2 q
    have hstep : ((2 ^ (q + 1 + 1) : Nat) : Int) = 2 * (2 ^ (q + 1) : Nat) := by exact_mod_cast pow_succ' 2 (q + 1)
    rw [qround_succ, hstep, hhalf, ← mul_add, Int.mul_ediv_mul_of_pos _ _ two_pos]

theorem sdmLevel_sdmSum (s : State) : s.sdmLevel (sdmSum s) = level s := by
  rw [State.sdmLevel, qround_eq_floor]
  rfl

/-- R145: the two orders of clamping agree on the 32-bit range. -/
theorem sat32_eq (x : Int) : sat32 x = max (-2147483648) (min x 2147483647) := by
  unfold sat32 clamp
  omega

theorem fracWrite_fracWord (v : Half) : Output.fracWrite (fracWord v) = fracWriteOf v := by
  rw [fracWord_eq, fracWriteOf]

/-- R229: what a modulator step returns and writes. -/
theorem sdmStep_eq (s : State) : sdmStep s = (level s, sdmAfter s) := by
  have hsum : s.receive.sdmSum = sdmSum s := by rw [receive_eq]; rfl
  have hlevel : s.receive.sdmLevel (sdmSum s) = level s := by rw [receive_eq, ← sdmLevel_sdmSum]; rfl
  rw [sdmStep, hsum, hlevel, State.modulate, sat32_eq, State.emitFrac, fracWrite_fracWord, receive_eq]
  rfl

/-! ### The SDM_TICK command and the TICK event -/

theorem exec_sdmTick_of_running {s : State} (h : Running s) (hmode : s.mode = true) :
    exec .sdmTick s = .next (sdmTickRule s) :=
  congrArg Host.Outcome.next (gate_run h.1 (fun _ => h.2) fun _ => hmode)

/-- A level as RESULT0 holds it: its 16-bit word, zero-extended. -/
theorem setWidth_ofInt_level (y : Int) : (BitVec.ofInt 16 y).setWidth 32 = BitVec.ofInt 32 (unsigned 16 y) := by
  rw [← toNat_ofInt_eq_unsigned, BitVec.ofInt_natCast, BitVec.ofNat_toNat]

/-- Settles O29: a running block in SDM mode performs the command's rule, which is a modulator step. -/
theorem sdmTickCommandModulates : Obligations.SdmTickCommandModulates := by
  intro s hrun hmode
  rw [exec_sdmTick_of_running hrun hmode, sdmTickRule, sdmStep_eq, ← setWidth_ofInt_level]
  rfl

theorem tickEvent_of_running {s : State} (h : Running s) (hmode : s.mode = true) : tickEvent s = sdmAfter s := by
  have hrun : s.running = true := (running_iff s).2 h
  rw [tickEvent, hrun, hmode, sdmStep_eq]
  rfl

theorem tickEvent_ignored {s : State} (h : ¬ Running s ∨ s.mode = false) : tickEvent s = s := by
  rcases tickEvent_cases s with hkeep | ⟨hrun, hmode, -⟩
  · exact hkeep
  · rcases h with hstop | hlut
    · exact absurd ((running_iff s).1 hrun) hstop
    · exact absurd hmode (Bool.eq_false_iff.1 hlut)

/-- Settles O30: TICK is the tick event, performed or ignored. -/
theorem tickEventModulatesOrIsIgnored : Obligations.TickEventModulatesOrIsIgnored := fun _ =>
  ⟨fun hrun hmode => congrArg Host.Outcome.next (tickEvent_of_running hrun hmode),
    fun h => congrArg Host.Outcome.next (tickEvent_ignored h)⟩

/-! ### What a TICK depends on, R220 -/

/-- The states agree on all that R220 lets the modulator read. -/
structure SameModulatorInputs (s s' : State) : Prop where
  mailbox : s'.mailbox = s.mailbox
  sdm : s'.sdm = s.sdm
  ctrl : s'.active.ctrl = s.active.ctrl
  sdmLimits : s'.active.sdmLimits = s.active.sdmLimits

namespace SameModulatorInputs

variable {s s' : State} (h : SameModulatorInputs s s')
include h

theorem mode_eq : s'.mode = s.mode := by rw [State.mode, h.ctrl, State.mode]

theorem qbits_eq : s'.sdmQbits = s.sdmQbits := by rw [State.sdmQbits, h.ctrl, State.sdmQbits]

theorem input_eq : sdmInput s' = sdmInput s := by rw [sdmInput, h.mailbox, h.sdm, sdmInput]

theorem sum_eq : sdmSum s' = sdmSum s := by
  rw [sdmSum, h.input_eq, h.sdm, State.sdmOrder, h.ctrl, sdmSum, State.sdmOrder]

theorem level_eq : level s' = level s := by
  simp only [level, nearestLevel, State.outMin, State.outMax, h.sum_eq, h.qbits_eq, h.sdmLimits]

theorem sdmAfter_mailbox_eq : (sdmAfter s').mailbox = (sdmAfter s).mailbox := by
  simp only [sdmAfter, h.mailbox]

theorem sdmAfter_sdm_eq : (sdmAfter s').sdm = (sdmAfter s).sdm := by
  simp only [sdmAfter, h.input_eq, h.sum_eq, h.level_eq, h.qbits_eq, h.sdm]

end SameModulatorInputs

/-- Settles O33: both states ignore the TICK, or both perform a modulator step, and what the step computes is a function
of the modulator's inputs. -/
theorem modulatorReadsOnlyItsOwnState : Obligations.ModulatorReadsOnlyItsOwnState := by
  intro s s' t t' hmailbox hsdm hctrl hlimits hstatus ht ht'
  obtain rfl : tickEvent s = t := Host.Outcome.next.inj ht
  obtain rfl : tickEvent s' = t' := Host.Outcome.next.inj ht'
  have same : SameModulatorInputs s s' := ⟨hmailbox, hsdm, hctrl, hlimits⟩
  have hrunning : Running s' ↔ Running s := by rw [Running, hstatus, Running]
  by_cases hticks : Running s ∧ s.mode = true
  case pos =>
    obtain ⟨hrun, hmode⟩ := hticks
    rw [tickEvent_of_running hrun hmode, tickEvent_of_running (hrunning.2 hrun) (same.mode_eq.trans hmode)]
    refine ⟨same.sdmAfter_mailbox_eq, same.sdmAfter_sdm_eq, [fracWriteOf (BitVec.ofInt 16 (level s))], rfl, ?_⟩
    rw [← same.level_eq]
    rfl
  case neg =>
    have hignored : ¬ Running s ∨ s.mode = false := by rwa [not_and_or, Bool.not_eq_true] at hticks
    rw [tickEvent_ignored hignored, tickEvent_ignored (by rwa [hrunning, same.mode_eq])]
    exact ⟨hmailbox, hsdm, [], by simp⟩

/-! ### A tick that does not clamp -/

/-- The nearest level lies in the level range, so the clamp of R222 leaves it alone. -/
def NotClamped (s : State) : Prop := s.outMin ≤ nearestLevel s ∧ nearestLevel s ≤ s.outMax

/-- The exact error of the tick to come, R223 and R224. -/
def tickError (s : State) : Int := sdmSum s - level s * (2 ^ s.sdmQbits : Nat)

theorem NotClamped.level_eq {s : State} (h : NotClamped s) : level s = nearestLevel s := clamp_of_mem h.1 h.2

/-- OUT reads back as the level, which lies between two 16-bit limits. -/
theorem NotClamped.toInt_out {s : State} (h : NotClamped s) : (sdmAfter s).sdm.out.toInt = level s := by
  have hlevel : level s = nearestLevel s := h.level_eq
  obtain ⟨hlo, hhi⟩ := h
  have hmin : -2 ^ 15 ≤ s.outMin := BitVec.le_toInt _
  have hmax : s.outMax < 2 ^ 15 := BitVec.toInt_lt
  exact toInt_ofInt_of_mem (by omega) (by omega) (by omega)

/-- R225: the distance to the nearest level is at most half a step, the upper end excluded. It is the remainder of the
division that rounds. -/
theorem NotClamped.tickError_mem {s : State} (h : NotClamped s) :
    -(2 ^ s.sdmQbits : Nat) ≤ 2 * tickError s ∧ 2 * tickError s < (2 ^ s.sdmQbits : Nat) := by
  have hstep : ((2 ^ (s.sdmQbits + 1) : Nat) : Int) = 2 * (2 ^ s.sdmQbits : Nat) := by
    exact_mod_cast pow_succ' 2 s.sdmQbits
  have hpos : (0 : Int) < (2 ^ (s.sdmQbits + 1) : Nat) := by exact_mod_cast Nat.two_pow_pos _
  have hlo := Int.emod_nonneg (2 * sdmSum s + (2 ^ s.sdmQbits : Nat)) hpos.ne'
  have hhi := Int.emod_lt_of_pos (2 * sdmSum s + (2 ^ s.sdmQbits : Nat)) hpos
  have hdiv := Int.emod_add_ediv_mul (2 * sdmSum s + (2 ^ s.sdmQbits : Nat)) (2 ^ (s.sdmQbits + 1) : Nat)
  have herror : 2 * tickError s =
      (2 * sdmSum s + (2 ^ s.sdmQbits : Nat)) % (2 ^ (s.sdmQbits + 1) : Nat) - (2 ^ s.sdmQbits : Nat) := by
    rw [tickError, h.level_eq, nearestLevel]
    rw [hstep] at hdiv ⊢
    linarith
  constructor <;> linarith

/-- R225: the saturation of the stored error is never reached, since Q is at most 31. -/
theorem NotClamped.toInt_e1 {s : State} (h : NotClamped s) : (sdmAfter s).sdm.e1.toInt = tickError s := by
  have hq : 2 ^ s.sdmQbits ≤ 2 ^ 31 := Nat.pow_le_pow_right two_pos (Nat.le_of_lt_succ (BitVec.isLt _))
  have herror := h.tickError_mem
  have hsat : max (-2147483648) (min (tickError s) 2147483647) = tickError s := by omega
  calc (sdmAfter s).sdm.e1.toInt = (BitVec.ofInt 32 (tickError s)).toInt :=
        congrArg (fun e => (BitVec.ofInt 32 e).toInt) hsat
    _ = tickError s := toInt_ofInt_of_mem (by omega) (by omega) (by omega)

/-- R225: a tick that does not clamp leaves its error within half a step. -/
theorem NotClamped.errorInStep {s : State} (h : NotClamped s) : ErrorInStep s (sdmAfter s).sdm.e1 := by
  rw [ErrorInStep, h.toInt_e1]
  obtain ⟨hlo, hhi⟩ := h.tickError_mem
  refine ⟨hlo, hhi, fun hq => ?_⟩
  rw [hq] at hlo hhi
  omega

/-- What the levels output so far owe: e1 for the first order, e1 - e2 for the second. -/
def shapedError (s : State) : Int := if s.sdmOrder then s.sdm.e1.toInt - s.sdm.e2.toInt else s.sdm.e1.toInt

/-- R223, R224: y * 2^Q is the input and the change of the shaped error. -/
theorem NotClamped.out_mul_sub_hold {s : State} (h : NotClamped s) (hempty : s.mailbox.full = false) :
    (sdmAfter s).sdm.out.toInt * (2 ^ s.sdmQbits : Nat) - s.sdm.hold.toInt =
      shapedError s - shapedError (sdmAfter s) := by
  have hinput : sdmInput s = s.sdm.hold := sdmInput_of_empty hempty
  have herror : (sdmAfter s).sdm.e1.toInt = sdmSum s - level s * (2 ^ s.sdmQbits : Nat) := h.toInt_e1
  have hshift : (sdmAfter s).sdm.e2 = s.sdm.e1 := rfl
  have horder : (sdmAfter s).sdmOrder = s.sdmOrder := rfl
  rw [h.toInt_out, shapedError, shapedError, horder, herror, hshift, sdmSum, hinput]
  cases s.sdmOrder with
  | false => simp only [Bool.false_eq_true, if_false]; ring
  | true => simp only [if_true]; ring

/-! ### Windows of ticks -/

theorem runTicks_succ (k : Nat) (s : State) :
    runTicks (k + 1) s =
      ((tickEvent s).sdm.out.toInt + (runTicks k (tickEvent s)).1, (runTicks k (tickEvent s)).2) := rfl

theorem tickEvent_active (s : State) : (tickEvent s).active = s.active := by
  rcases tickEvent_cases s with h | ⟨-, -, h⟩ <;> rw [h]
  exact sdmStep_active s

theorem runTicks_active (k : Nat) (s : State) : (runTicks k s).2.active = s.active := by
  induction k generalizing s with
  | zero => rfl
  | succ k ih => exact (ih (tickEvent s)).trans (tickEvent_active s)

/-- The conditions of R233 and R234 on a window of k ticks, the errors at its start apart: every tick is performed, on
the held input, and none clamps. -/
structure HeldWindow (k : Nat) (s : State) : Prop where
  running : Running s
  sdmMode : s.mode = true
  mailboxEmpty : s.mailbox.full = false
  unclamped : Unclamped k s

namespace HeldWindow

variable {k : Nat} {s : State}

theorem tickEvent_eq (h : HeldWindow k s) : tickEvent s = sdmAfter s := tickEvent_of_running h.running h.sdmMode

theorem notClamped (h : HeldWindow (k + 1) s) : NotClamped s := h.unclamped 0 k.succ_pos

/-- After the first tick the rest of the window is one. -/
theorem tail (h : HeldWindow (k + 1) s) : HeldWindow k (sdmAfter s) where
  running := h.running
  sdmMode := h.sdmMode
  mailboxEmpty := rfl
  unclamped := fun j hj => h.tickEvent_eq ▸ h.unclamped (j + 1) (Nat.succ_lt_succ hj)

/-- What every tick that does not clamp keeps holds at the end of the window. -/
theorem holds_at_end {P : State → Prop} (h : HeldWindow k s) (start : P s)
    (tick : ∀ u, NotClamped u → P u → P (sdmAfter u)) : P (runTicks k s).2 := by
  induction k generalizing s with
  | zero => exact start
  | succ k ih =>
    rw [runTicks_succ, h.tickEvent_eq]
    exact ih h.tail (tick s h.notClamped start)

/-- R233, R234: over a window the levels telescope to the change of the shaped error. -/
theorem sum_mul_sub (h : HeldWindow k s) :
    (runTicks k s).1 * (2 ^ s.sdmQbits : Nat) - k * s.sdm.hold.toInt =
      shapedError s - shapedError (runTicks k s).2 := by
  induction k generalizing s with
  | zero => simp [runTicks]
  | succ k ih =>
    have hinput : (sdmAfter s).sdm.hold = s.sdm.hold := sdmInput_of_empty h.mailboxEmpty
    have hqbits : (sdmAfter s).sdmQbits = s.sdmQbits := rfl
    have hfirst := h.notClamped.out_mul_sub_hold h.mailboxEmpty
    have hrest := ih h.tail
    rw [hinput, hqbits] at hrest
    rw [runTicks_succ, h.tickEvent_eq]
    push_cast at hfirst hrest ⊢
    linarith

end HeldWindow

theorem errorInStep_congr {s t : State} (h : t.active = s.active) (e : Word) : ErrorInStep t e ↔ ErrorInStep s e := by
  rw [ErrorInStep, State.sdmQbits, h, ErrorInStep, State.sdmQbits]

/-- A window that starts with its last error within half a step ends so. -/
theorem HeldWindow.errorInStep_e1 {k : Nat} {s : State} (h : HeldWindow k s) (h1 : ErrorInStep s s.sdm.e1) :
    ErrorInStep s (runTicks k s).2.sdm.e1 :=
  (errorInStep_congr (runTicks_active k s) _).1
    (h.holds_at_end (P := fun u => ErrorInStep u u.sdm.e1) h1 fun _ hu _ => hu.errorInStep)

/-- The error before the last is the last error of one tick earlier. -/
theorem HeldWindow.errorInStep_e2 {k : Nat} {s : State} (h : HeldWindow k s) (h1 : ErrorInStep s s.sdm.e1)
    (h2 : ErrorInStep s s.sdm.e2) : ErrorInStep s (runTicks k s).2.sdm.e2 :=
  have hboth := h.holds_at_end (P := fun u => ErrorInStep u u.sdm.e1 ∧ ErrorInStep u u.sdm.e2) ⟨h1, h2⟩
    fun _ hu hprev => ⟨hu.errorInStep, hprev.1⟩
  (errorInStep_congr (runTicks_active k s) _).1 hboth.2

theorem shapedError_firstOrder {s : State} (h : s.sdmOrder = false) : shapedError s = s.sdm.e1.toInt := by
  rw [shapedError, h]
  rfl

theorem shapedError_secondOrder {s : State} (h : s.sdmOrder = true) :
    shapedError s = s.sdm.e1.toInt - s.sdm.e2.toInt := by
  rw [shapedError, h]
  rfl

theorem runTicks_sdmOrder (k : Nat) (s : State) : (runTicks k s).2.sdmOrder = s.sdmOrder := by
  rw [State.sdmOrder, runTicks_active, State.sdmOrder]

/-- R233: INIT leaves the modulator cleared, or is fatal. -/
theorem init_clears_e1 {s t : State} (hs : s.status.fatal = false) (h : exec .init s = .next t)
    (ht : t.status.fatal = false) : t.sdm.e1 = 0#32 := by
  obtain ⟨-, rfl⟩ := exec_init_accepted hs h ht
  rfl

/-- Settles O31: the shaped error of the first order is the stored error, at both ends of the window within half a
step. -/
theorem firstOrderModulatorIsBounded : Obligations.FirstOrderModulatorIsBounded := by
  refine ⟨fun s k hrun hmode horder hempty h1 hunclamped => ?window, fun _ _ => init_clears_e1⟩
  case window =>
    have hw : HeldWindow k s := ⟨hrun, hmode, hempty, hunclamped⟩
    have hsum := hw.sum_mul_sub
    rw [shapedError_firstOrder horder, shapedError_firstOrder ((runTicks_sdmOrder k s).trans horder)] at hsum
    obtain ⟨hlo, hhi, hzero⟩ := h1
    obtain ⟨hlo', hhi', hzero'⟩ := hw.errorInStep_e1 ⟨hlo, hhi, hzero⟩
    refine ⟨hsum, ?bound, fun hq => ?exact⟩
    case bound =>
      rw [hsum, abs_lt]
      constructor <;> linarith
    case exact =>
      rw [hzero hq, hzero' hq, hq, pow_zero, Nat.cast_one] at hsum
      linarith

/-- Settles O32: the shaped error of the second order is the difference of the two stored errors, at both ends of the
window less than a step. -/
theorem secondOrderModulatorIsBounded : Obligations.SecondOrderModulatorIsBounded := by
  intro s k hrun hmode horder hempty h1 h2 hunclamped
  have hw : HeldWindow k s := ⟨hrun, hmode, hempty, hunclamped⟩
  have hsum := hw.sum_mul_sub
  rw [shapedError_secondOrder horder, shapedError_secondOrder ((runTicks_sdmOrder k s).trans horder)] at hsum
  obtain ⟨hlo1', hhi1', -⟩ := hw.errorInStep_e1 h1
  obtain ⟨hlo2', hhi2', -⟩ := hw.errorInStep_e2 h1 h2
  obtain ⟨hlo1, hhi1, -⟩ := h1
  obtain ⟨hlo2, hhi2, -⟩ := h2
  refine ⟨hsum, ?bound⟩
  rw [hsum, abs_le]
  constructor <;> omega

end Sys2Proof.Machine
end

section
/-!
PROOFS. The control-loop sequencer (spec/45_sequencer.md R250-R258). An edge either only counts or performs one control
update, and each of the control updates is given once over the exact integers of Sys2Proof.Spec. EDGE and SAMPLE are both
that one step.
-/

namespace Sys2Proof.Machine

open Sys2Proof.Spec

/-! ### Decimation, R250 -/

/-- The state with LOOP_COUNTER at a given count. A control update starts from count 0. -/
def State.withCount (s : State) (n : Nat) : State := { s with seq := { s.seq with loopCounter := BitVec.ofNat 32 n } }

@[simp] theorem State.withCount_withCount (s : State) (j k : Nat) : (s.withCount j).withCount k = s.withCount k := rfl

theorem State.withCount_self (s : State) : s.withCount s.seq.loopCounter.toNat = s := by
  rw [State.withCount, BitVec.ofNat_toNat, BitVec.setWidth_eq]

theorem State.toNat_loopCounter_withCount (s : State) {n : Nat} (h : n < 2 ^ 32) :
    (s.withCount n).seq.loopCounter.toNat = n :=
  Nat.mod_eq_of_lt h

/-- Below A_LOOP_RATE the counter does not wrap, so the 32-bit comparison is the one of the spec. -/
theorem loopCounter_succ_eq_iff {s : State} (h : s.seq.loopCounter.toNat < s.active.loopRate.toNat) :
    s.seq.loopCounter + 1#32 = s.active.loopRate ↔ UpdateDue s := by
  unfold UpdateDue
  bv_omega

theorem edgeStep_of_notDue {s : State} (h : s.seq.loopCounter.toNat + 1 < s.active.loopRate.toNat) (m r : Half) :
    edgeStep m r s = (.none, s.withCount (s.seq.loopCounter.toNat + 1)) := by
  have hne : s.seq.loopCounter + 1#32 ≠ s.active.loopRate :=
    mt (loopCounter_succ_eq_iff (Nat.lt_of_succ_lt h)).1 (Nat.ne_of_lt h)
  have hsucc : s.seq.loopCounter + 1#32 = BitVec.ofNat 32 (s.seq.loopCounter.toNat + 1) := by bv_omega
  rw [edgeStep, if_neg hne, hsucc, State.withCount]

theorem edgeStep_of_due {s : State} (h : UpdateDue s) (m r : Half) :
    edgeStep m r s = controlUpdate m r (s.withCount 0) :=
  if_pos ((loopCounter_succ_eq_iff (Nat.lt_of_succ_le h.le)).2 h)

/-! ### The control updates over exact integers, R251-R255 -/

theorem firstLoopUpdate_eq (m r : Half) (s : State) :
    firstLoopUpdate m r s =
      { s with
        seq := { s.seq with firstLoop := false }
        pfd := { s.pfd with
          mclkLast := m
          refLast := if s.params.seedRefOnFirst = true ∧ s.er ≠ 0 then r else s.pfd.refLast }
        pi := { s.pi with accum := 0#32 }
        lock := { s.lock with countdown := s.params.lockCount, status := 0b11#2 } } := by
  simp only [firstLoopUpdate, Bool.and_eq_true, decide_eq_true_eq]
  rfl

theorem drive_lutMode_eq {s : State} (hmode : s.mode = false) (hN : 1 ≤ s.active.lutN.toNat) (c : Int) :
    drive c s =
      { s with
        lock := lockAfter s c
        outputs := s.outputs ++ [fracWriteOf (s.lutRead (selected s c))] } := by
  rw [drive_of_lutMode hmode, lutFunction_eq hN, State.emitFrac, fracWrite_fracWord]

theorem actuate_eq (m : Half) (e : Int) (s : State) :
    actuate m e s =
      { drive (controlSignal s e) { s with pi := piAfter s e } with pfd := { s.pfd with mclkLast := m } } := by
  rw [actuate, piFunction_eq]
  simp only [drive_pfd]

/-- R254 in LUT mode: the selection reads nothing that the PI controller writes. -/
theorem actuate_of_lutMode {s : State} (hmode : s.mode = false) (hN : 1 ≤ s.active.lutN.toNat) (m : Half) (e : Int) :
    actuate m e s =
      { s with
        pfd := { s.pfd with mclkLast := m }
        pi := piAfter s e
        lock := lockAfter s (controlSignal s e)
        outputs := s.outputs ++ [fracWriteOf (s.lutRead (selected s (controlSignal s e)))] } := by
  rw [actuate_eq, drive_lutMode_eq (s := { s with pi := piAfter s e }) hmode hN]
  rfl

/-- R254 in SDM mode: the control signal goes to the mailbox. -/
theorem actuate_of_sdmMode {s : State} (hmode : s.mode = true) (m : Half) (e : Int) :
    actuate m e s =
      { s with
        pfd := { s.pfd with mclkLast := m }
        pi := piAfter s e
        mailbox := { slot := BitVec.ofInt 32 (controlSignal s e), full := true } } := by
  rw [actuate_eq, drive_of_sdmMode (s := { s with pi := piAfter s e }) hmode]
  rfl

/-- The state PFD(m, r) leaves, R160. -/
def State.afterPfd (s : State) (m r : Half) : State := { s with pfd := pfdAfter s m r }

theorem controlUpdate_first {s : State} (h : s.seq.firstLoop = true) (m r : Half) :
    controlUpdate m r s = (.first, firstLoopUpdate m r s) :=
  if_pos h

theorem controlUpdate_resync {s : State} {m r : Half} (hfirst : s.seq.firstLoop = false) (hd : desync s m r = true) :
    controlUpdate m r s = (.resync, resyncAction m (s.afterPfd m r)) := by
  simp [controlUpdate, hfirst, pfdFunction_eq, hd, State.afterPfd]

theorem controlUpdate_steady {s : State} {m r : Half} (hfirst : s.seq.firstLoop = false) (hd : desync s m r = false) :
    controlUpdate m r s = (.steady, actuate m (phaseError s m r) (s.afterPfd m r)) := by
  simp [controlUpdate, hfirst, pfdFunction_eq, hd, State.afterPfd]

/-! ### The EDGE event, R258 -/

theorem exec_edge_of_running {s : State} (h : Running s) (m r : Half) :
    exec (.edge m r) s = .next (edgeStep m r s).2 :=
  congrArg Host.Outcome.next (if_pos ((running_iff s).2 h))

theorem exec_edge_of_due {s : State} (hrun : Running s) (hdue : UpdateDue s) (m r : Half) :
    exec (.edge m r) s = .next (controlUpdate m r (s.withCount 0)).2 := by
  rw [exec_edge_of_running hrun, edgeStep_of_due hdue]

theorem exec_edge_of_notDue {s : State} (hrun : Running s)
    (h : s.seq.loopCounter.toNat + 1 < s.active.loopRate.toNat) (m r : Half) :
    exec (.edge m r) s = .next (s.withCount (s.seq.loopCounter.toNat + 1)) := by
  rw [exec_edge_of_running hrun, edgeStep_of_notDue h]

/-- Settles O35: the event of an edge that is not yet the update. -/
theorem edgeBeforeTheUpdateOnlyCounts : Obligations.EdgeBeforeTheUpdateOnlyCounts :=
  fun _ m r hrun h => exec_edge_of_notDue hrun h m r

theorem runEdges_cons {s t : State} {m r : Half} (h : exec (.edge m r) s = .next t) (es : List (Half × Half)) :
    runEdges ((m, r) :: es) s = runEdges es t := by
  rw [runEdges, h]

/-- The first edge of the stream counts, and from there the rest of it stays below the rate. -/
theorem runEdges_of_below {s : State} {es : List (Half × Half)} (hrun : Running s)
    (h : s.seq.loopCounter.toNat + es.length < s.active.loopRate.toNat) :
    runEdges es s = .next (s.withCount (s.seq.loopCounter.toNat + es.length)) := by
  induction es generalizing s with
  | nil => exact congrArg Host.Outcome.next s.withCount_self.symm
  | cons e es ih =>
    rw [List.length_cons] at h ⊢
    have hcount := s.toNat_loopCounter_withCount (n := s.seq.loopCounter.toNat + 1) (by omega)
    have hrest : (s.withCount (s.seq.loopCounter.toNat + 1)).seq.loopCounter.toNat + es.length <
        s.active.loopRate.toNat := by omega
    rw [runEdges_cons (exec_edge_of_notDue hrun (by omega) e.1 e.2),
      ih (s := s.withCount (s.seq.loopCounter.toNat + 1)) hrun hrest, hcount, State.withCount_withCount,
      Nat.add_assoc, Nat.add_comm 1]

/-- Settles O36, by induction on the stream of edges. -/
theorem decimationDiscardsTheSamplesBetween : Obligations.DecimationDiscardsTheSamplesBetween :=
  fun _ _ => runEdges_of_below

/-- Settles O37: the update that is due is a first-loop update. -/
theorem firstLoopUpdateSeedsTheLoop : Obligations.FirstLoopUpdateSeedsTheLoop := by
  intro s m r hrun hdue hfirst
  rw [exec_edge_of_due hrun hdue, controlUpdate_first (s := s.withCount 0) hfirst, firstLoopUpdate_eq]
  rfl

/-- Settles O38: the PFD writes its registers first, and the resync writes MCLK_LAST, which the PFD keeps. -/
theorem resyncUpdateReturnsToFirstLoop : Obligations.ResyncUpdateReturnsToFirstLoop := by
  intro s m r hrun hdue hfirst hd
  rw [exec_edge_of_due hrun hdue, controlUpdate_resync (s := s.withCount 0) hfirst hd]
  rfl

/-- Settles O39: the PI controller and the selector read nothing that the parts before them have written. -/
theorem steadyUpdateInLutModeWritesTheSynthesizer : Obligations.SteadyUpdateInLutModeWritesTheSynthesizer := by
  intro s m r c hrun hdue hfirst hmode hd hN hc
  rw [exec_edge_of_due hrun hdue, controlUpdate_steady (s := s.withCount 0) hfirst hd,
    actuate_of_lutMode (s := (s.withCount 0).afterPfd m r) hmode hN, hc, ← hfirst]
  rfl

/-- Settles O40: as in LUT mode, with a send in place of the selection and its FracWrite. -/
theorem steadyUpdateInSdmModePublishes : Obligations.SteadyUpdateInSdmModePublishes := by
  intro s m r hrun hdue hfirst hmode hd
  rw [exec_edge_of_due hrun hdue, controlUpdate_steady (s := s.withCount 0) hfirst hd,
    actuate_of_sdmMode (s := (s.withCount 0).afterPfd m r) hmode, ← hfirst]
  rfl

/-! ### The SAMPLE command, R256 -/

theorem exec_sample_of_running {s : State} (h : Running s) : exec .sample s = .next (sampleRule s) :=
  congrArg Host.Outcome.next (gate_run h.1 (fun _ => h.2) nofun)

theorem controlUpdate_code (m r : Half) (s : State) :
    (controlUpdate m r s).1.code = if s.seq.firstLoop then 1#32 else if desync s m r then 3#32 else 2#32 := by
  cases hfirst : s.seq.firstLoop with
  | true => rw [controlUpdate_first hfirst]; rfl
  | false =>
    cases hd : desync s m r with
    | true => rw [controlUpdate_resync hfirst hd]; rfl
    | false => rw [controlUpdate_steady hfirst hd]; rfl

/-- R256: the code of a step's kind, from what the step finds. -/
theorem edgeStep_code {s : State} (h : s.seq.loopCounter.toNat < s.active.loopRate.toNat) (m r : Half) :
    (edgeStep m r s).1.code =
      if s.seq.loopCounter.toNat + 1 ≠ s.active.loopRate.toNat then 0#32
      else if s.seq.firstLoop then 1#32
      else if desync s m r then 3#32
      else 2#32 := by
  split
  case isTrue hne =>
    rw [edgeStep_of_notDue (by omega)]
    rfl
  case isFalse hdue =>
    rw [edgeStep_of_due (not_not.1 hdue)]
    exact controlUpdate_code m r (s.withCount 0)

/-- R256: SAMPLE writes only its results into the host registers, which a step leaves alone. -/
theorem sampleRule_eq (s : State) :
    sampleRule s =
      { (edgeStep s.argMclk s.argRef s).2 with
        host := { s.host with
          result0 := (edgeStep s.argMclk s.argRef s).1.code
          result1 := BitVec.ofNat 32 (edgeStep s.argMclk s.argRef s).2.lock.status.toNat } } := by
  rw [sampleRule, BitVec.ofNat_toNat]
  simp only [edgeStep_host]
  rfl

/-- Settles O41: the next state that is asked for is the one of the step both operations perform. -/
theorem sampleIsAnEdgeWithResults : Obligations.SampleIsAnEdgeWithResults := by
  intro s hrun hlt
  refine ⟨_, exec_edge_of_running hrun _ _, ?sample⟩
  case sample => rw [exec_sample_of_running hrun, sampleRule_eq, argMclk_eq, argRef_eq, edgeStep_code hlt]

end Sys2Proof.Machine
end

section
/-!
PROOFS. INIT and NOP (spec/46_init_and_host.md R270-R280). The model's configuration check answers the number of the
first of Sys2Proof.Spec's checks to fail, and 0 if none does, which decides between the load and the fatal state.
-/

namespace Sys2Proof.Machine

open Sys2Proof.Spec

/-! ### The configuration checks, R271 -/

/-- R53: with K_i positive its two readings agree, so the model's quotient of naturals is the exact one. -/
theorem windup_eq_initWindup (g : Staging) (p : Params) : (g.windup p : Int) = initWindup g p := by
  unfold Staging.windup initWindup
  split
  case isTrue hpos =>
    have hki : g.ki.toInt = g.ki.toNat := BitVec.toInt_eq_toNat_of_lt (BitVec.toInt_pos_iff.1 hpos.le)
    rw [hki, Int.natCast_div]
  case isFalse => rfl

/-- Check 6, the width budget: it is made only with compensation on, where S_num is the quotient. -/
theorem checkFails_widthBudget_iff (g : Staging) (p : Params) :
    checkFails g p 6 ↔ g.er ≠ 0 ∧ 18446744073709551616 ≤ g.em * (g.er + 32767) * g.scaleNum p :=
  and_congr_right fun her => by rw [Staging.scaleNum, if_neg (show g.er ≠ 0 from her)]; rfl

/-- Check 8, the windup limit: it is made only with K_i positive, where W_lim is the quotient. -/
theorem checkFails_windup_iff (g : Staging) (p : Params) :
    checkFails g p 8 ↔ 0 < g.ki.toInt ∧ 2147483647 < g.windup p :=
  and_congr_right fun hki => by
    have hquotient := windup_eq_initWindup g p
    rw [initWindup, if_pos hki] at hquotient
    rw [← hquotient]
    omega

/-- R271: CFGCHECK() makes the checks in the order of their numbers. -/
theorem cfgCheck_eq_chain (g : Staging) (p : Params) [∀ k, Decidable (checkFails g p k)] :
    cfgCheck g p =
      if checkFails g p 1 then 1 else if checkFails g p 2 then 2 else if checkFails g p 3 then 3
      else if checkFails g p 4 then 4 else if checkFails g p 5 then 5 else if checkFails g p 6 then 6
      else if checkFails g p 7 then 7 else if checkFails g p 8 then 8 else if checkFails g p 9 then 9 else 0 :=
  if_congr .rfl rfl <| if_congr .rfl rfl <| if_congr .rfl rfl <| if_congr .rfl rfl <| if_congr .rfl rfl <|
    if_congr (checkFails_widthBudget_iff g p).symm rfl <| if_congr .rfl rfl <|
    if_congr (checkFails_windup_iff g p).symm rfl <| if_congr .rfl rfl rfl

/-- R271: what CFGCHECK() answers other than 0 is the number of a failing check. -/
theorem checkFails_cfgCheck {g : Staging} {p : Params} (h : cfgCheck g p ≠ 0) : checkFails g p (cfgCheck g p) := by
  classical
  rw [cfgCheck_eq_chain] at h ⊢
  split_ifs at h ⊢
  case neg => exact absurd rfl h
  all_goals assumption

/-- R271: CFGCHECK() passes over no failing check. -/
theorem cfgCheck_le_of_checkFails {g : Staging} {p : Params} {k : Nat} (h : checkFails g p k) :
    cfgCheck g p ≠ 0 ∧ cfgCheck g p ≤ k := by
  classical
  rw [cfgCheck_eq_chain]
  match k, h with
  | 1, h | 2, h | 3, h | 4, h | 5, h | 6, h | 7, h | 8, h | 9, h => split_ifs <;> decide

/-- R270: the number INIT reports is that of the first failing check, which is never 0. -/
theorem cfgCheck_eq_of_first {g : Staging} {p : Params} {k : Nat} (h : checkFails g p k)
    (first : ∀ j, j < k → ¬ checkFails g p j) : cfgCheck g p = k ∧ k ≠ 0 := by
  obtain ⟨hne, hle⟩ := cfgCheck_le_of_checkFails h
  have hge : k ≤ cfgCheck g p := not_lt.1 fun hlt => first _ hlt (checkFails_cfgCheck hne)
  have heq := le_antisymm hle hge
  exact ⟨heq, heq ▸ hne⟩

theorem cfgCheck_eq_zero {g : Staging} {p : Params} (h : ∀ k, ¬ checkFails g p k) : cfgCheck g p = 0 :=
  by_contra fun hne => h _ (checkFails_cfgCheck hne)

/-! ### The INIT command, R270 and R272 -/

theorem initRule_accepted {s : State} (h : cfgCheck s.staging s.params = 0) : initRule s = load s := if_pos h

theorem initRule_rejected {s : State} (h : cfgCheck s.staging s.params ≠ 0) :
    initRule s = s.raiseFatal (BitVec.ofNat 4 (cfgCheck s.staging s.params)) := if_neg h

theorem load_md {s : State} (h : Accepted s.staging s.params) : (load s).md = s.staging.maxDiff :=
  Nat.mod_eq_of_lt h.maxDiffFits

/-- Settles O42: no check fails, so INIT loads, and an accepted configuration's derived values fit their registers. -/
theorem initLoadsAnAcceptedConfiguration : Obligations.InitLoadsAnAcceptedConfiguration := by
  intro s hp hs hpass
  have hcheck := cfgCheck_eq_zero hpass
  have haccepted := accepted_of_cfgCheck hcheck
  refine ⟨load s, ?exec, load_em haccepted, load_er haccepted, load_snum hp, load_md haccepted, ?windup, rfl⟩
  case exec => rw [exec_init_of_not_fatal hs, initRule_accepted hcheck]
  case windup => rw [load_wlim haccepted, windup_eq_initWindup]

/-- Settles O43: the configuration check answers the first failing check, and INIT raises it as the fatal cause. -/
theorem initReportsTheFirstFailingCheck : Obligations.InitReportsTheFirstFailingCheck := by
  intro s k hs hfails hfirst
  obtain ⟨rfl, hne⟩ := cfgCheck_eq_of_first hfails hfirst
  rw [exec_init_of_not_fatal hs, initRule_rejected hne]
  rfl

/-! ### The NOP command, R280 -/

/-- NOP needs neither INITIALISED nor a mode, so the gate ignores it or runs it, with the same state. -/
theorem commandNop_eq (s : State) : commandNop s = s := by
  rcases gate_cases .nop nopRule s with ⟨-, ignored⟩ | ⟨-, needs, -⟩ | ⟨-, -, needs, -⟩ | ⟨-, -, -, run⟩
  exacts [ignored, (nomatch needs), (nomatch needs), run]

/-- Settles O44: NOP is a CMD write of NOP, which answers the state itself. -/
theorem nopChangesNothing : Obligations.NopChangesNothing := fun s =>
  congrArg Host.Outcome.next (commandNop_eq s)

end Sys2Proof.Machine
end

section
/-!
PROOFS. Errors, the fatal state and hardware reset (spec/60_exceptions.md R300-R321, spec/70_reset_and_hazards.md R340).
Every command is its rule behind one gate, so each error is one branch of the gate. In the fatal state the gate and the
events let nothing through, and a bus transaction reaches only what the host may still access.
-/

namespace Sys2Proof.Machine

open Sys2Proof.Spec

/-! ### The gate's branches, R112 and R310 -/

/-- The rule a command runs when the gate lets it through. -/
def commandRule : Command → State → State
  | .nop => nopRule
  | .init => initRule
  | .sample => sampleRule
  | .pfd => pfdRule
  | .pi => piRule
  | .lut => lutRule
  | .publish => publishRule
  | .sdmTick => sdmTickRule

theorem runCommand_eq_gate (c : Command) (s : State) : runCommand c s = gate c (commandRule c) s := by cases c <;> rfl

theorem needsInit_iff (c : Command) : needsInit c = true ↔ c ≠ .nop ∧ c ≠ .init := by cases c <;> decide

theorem needsSdmMode_iff (c : Command) : needsSdmMode c = true ↔ c = .sdmTick := by cases c <;> decide

theorem runCommand_of_fatal {s : State} (h : s.status.fatal = true) (c : Command) : runCommand c s = s :=
  (runCommand_eq_gate c s).trans (if_pos h)

theorem runCommand_of_notInit {s : State} {c : Command} (hf : s.status.fatal = false)
    (hi : s.status.initialised = false) (hc : needsInit c = true) : runCommand c s = s.raiseError errNotInit := by
  simp [runCommand_eq_gate, gate, hf, hi, hc]

theorem runCommand_of_lutMode {s : State} {c : Command} (h : Running s) (hmode : s.mode = false)
    (hc : needsSdmMode c = true) : runCommand c s = s.raiseError errMode := by
  simp [runCommand_eq_gate, gate, h.1, h.2, hmode, hc]

theorem runCommand_of_running {s : State} {c : Command} (h : Running s) (hmode : needsSdmMode c = true → s.mode = true) :
    runCommand c s = commandRule c s :=
  (runCommand_eq_gate c s).trans (gate_run h.1 (fun _ => h.2) hmode)

/-- R114: a word of 8 or more is no command. -/
theorem execute_of_ge {w : Word} (h : 8 ≤ w.toNat) (s : State) :
    execute w s = if s.status.fatal then s else s.raiseError errIllegalCmd := by
  rw [execute, decodeCommand_of_ge h]

theorem exec_write_cmd (w : Word) (s : State) : exec (.write 0x048#20 w) s = .next (execute w s) :=
  exec_write_register (off := 0x048) rfl w s

theorem edgeEvent_ignored {s : State} (h : ¬ Running s) (m r : Half) : edgeEvent m r s = s :=
  (edgeEvent_cases m r s).resolve_right fun ⟨hrun, _⟩ => h ((running_iff s).1 hrun)

/-! ### The fatal state, R305 and R321 -/

/-- The two states differ only in what the bus reaches without a command: the staging and host registers, the error
code, the LUT RAM and the record of the words read. -/
def DifferInHostAccess (s t : State) : Prop :=
  ∃ g h code mem log, t =
    { s with staging := g, host := h, status := { s.status with errCode := code }, mem := mem, readLog := log }

theorem DifferInHostAccess.refl (s : State) : DifferInHostAccess s s := ⟨_, _, _, _, _, rfl⟩

theorem busRead_differInHostAccess (a : Addr) (s : State) : DifferInHostAccess s (busRead a s) := by
  rcases busRead_cases a s with ⟨l, -, h⟩ | ⟨-, h⟩ <;> rw [h] <;> exact ⟨_, _, _, _, _, rfl⟩

/-- R305: CMD is the one register whose WRITE could do more, and the fatal state ignores it. -/
theorem writeReg_differInHostAccess {s : State} (hf : s.status.fatal = true) (r : Reg) (d : Word) :
    DifferInHostAccess s (writeReg r d s) :=
  writeReg_elim r d ⟨_, _, _, _, _, rfl⟩ (fun _ _ => ⟨_, _, _, _, _, rfl⟩) (fun _ => ⟨_, _, _, _, _, rfl⟩)
    (execute_elim d (.refl s) (fun _ _ => ⟨_, _, _, _, _, rfl⟩) fun c _ => (runCommand_of_fatal hf c).symm ▸ .refl s)

theorem busWrite_differInHostAccess {s : State} (hf : s.status.fatal = true) (a : Addr) (d : Word) :
    DifferInHostAccess s (busWrite a d s) := by
  rcases busWrite_cases a d s with ⟨r, -, h⟩ | ⟨i, -, h⟩ | ⟨-, h⟩ <;> rw [h]
  · exact writeReg_differInHostAccess hf r d
  · exact ⟨_, _, _, _, _, rfl⟩
  · exact ⟨_, _, _, _, _, rfl⟩

/-- In the fatal state an operation is ignored, or is a bus transaction, or is RST. -/
theorem exec_of_fatal {i : Instr} {s t : State} (hf : s.status.fatal = true) (h : exec i s = .next t) (hr : i ≠ .rst) :
    t = s ∨ (datapathOnly i = false ∧ i ≠ .init ∧ DifferInHostAccess s t) := by
  have hstop : ¬ Running s := fun hrun => Bool.false_ne_true (hrun.1.symm.trans hf)
  rcases exec_cases h with ⟨c, -, rfl⟩ | ⟨a, rfl, rfl⟩ | ⟨a, d, rfl, rfl⟩ | ⟨m, r, -, rfl⟩ | ⟨-, rfl⟩ | ⟨rfl, -⟩
  · exact .inl (runCommand_of_fatal hf c)
  · exact .inr ⟨rfl, nofun, busRead_differInHostAccess a s⟩
  · exact .inr ⟨rfl, nofun, busWrite_differInHostAccess hf a d⟩
  · exact .inl (edgeEvent_ignored hstop m r)
  · exact .inl (tickEvent_ignored (.inl hstop))
  · exact absurd rfl hr

/-- Settles O49: only a bus transaction is not ignored, and what it reaches is none of the elements named. -/
theorem onlyResetLeavesTheFatalState : Obligations.OnlyResetLeavesTheFatalState := by
  intro i s hf hr
  obtain ⟨t, ht⟩ := exec_next i s
  rcases exec_of_fatal hf ht hr with rfl | ⟨hbus, hinit, g, h, code, mem, log, rfl⟩
  · exact ⟨fun _ => ht, t, ht, hf, rfl, rfl, rfl, rfl, rfl, rfl, rfl, rfl, rfl, rfl⟩
  · refine ⟨fun hi => ?ignored, _, ht, hf, rfl, rfl, rfl, rfl, rfl, rfl, rfl, rfl, rfl, rfl⟩
    case ignored => exact absurd (hi.resolve_right hinit) (Bool.eq_false_iff.1 hbus)

/-! ### ILLEGAL_CMD, R302 -/

/-- Settles O46: both conditions on the word say that it is 8 or more. -/
theorem illegalCommandWordOnlySetsTheError : Obligations.IllegalCommandWordOnlySetsTheError := by
  intro s w hw
  have hge : 8 ≤ w.toNat := by omega
  rw [exec_write_cmd, execute_of_ge hge]
  exact ⟨fun hf => by rw [hf]; rfl, fun hf => by rw [hf]; rfl⟩

/-! ### NOT_INIT, R303 -/

/-- INIT's one error is CONFIG, R270. -/
theorem initRule_errCode (s : State) :
    (initRule s).status.errCode = s.status.errCode ∨ (initRule s).status.errCode = 0x05#8 := by
  rcases initRule_cases s with ⟨-, h⟩ | ⟨-, h⟩ <;> rw [h]
  exacts [.inl rfl, .inr rfl]

/-- Settles O47: the commands but NOP and INIT are those that need INITIALISED, and the block does not run. -/
theorem datapathCommandsNeedInit : Obligations.DatapathCommandsNeedInit := by
  intro s hf hi
  have hstop : ¬ Running s := fun hrun => Bool.false_ne_true (hi.symm.trans hrun.2)
  refine ⟨fun c hnop hinit => ?datapath, nopChangesNothing s,
    ⟨initRule s, exec_init_of_not_fatal hf, initRule_errCode s⟩,
    fun m r => congrArg Host.Outcome.next (edgeEvent_ignored hstop m r),
    congrArg Host.Outcome.next (tickEvent_ignored (.inl hstop))⟩
  case datapath =>
    rw [exec_instr, runCommand_of_notInit hf hi ((needsInit_iff c).2 ⟨hnop, hinit⟩)]
    rfl

/-! ### MODE, R304 -/

/-- R309: the rules of the commands but INIT write no error. -/
theorem commandRule_status {c : Command} (hc : c ≠ .init) (s : State) : (commandRule c s).status = s.status := by
  cases c
  case init => exact absurd rfl hc
  case nop => rfl
  all_goals simp [commandRule]

/-- R304: in either mode every command but SDM_TICK runs its rule. -/
theorem exec_instr_of_running {s : State} {c : Command} (h : Running s) (hc : c ≠ .sdmTick) :
    exec c.instr s = .next (commandRule c s) := by
  rw [exec_instr, runCommand_of_running h fun hm => absurd ((needsSdmMode_iff c).1 hm) hc]

/-- Settles O48: SDM_TICK is the one command that needs SDM mode, and INIT's rule the one that can write an error. -/
theorem sdmTickNeedsSdmMode : Obligations.SdmTickNeedsSdmMode := by
  intro s hrun
  refine ⟨fun hmode => ?lutMode, fun c hc => ⟨_, exec_instr_of_running hrun hc, ?errCode⟩⟩
  case lutMode => exact congrArg Host.Outcome.next (runCommand_of_lutMode (c := .sdmTick) hrun hmode rfl)
  case errCode =>
    by_cases hinit : c = .init
    · subst hinit
      exact (initRule_errCode s).imp_right fun h => ⟨rfl, h⟩
    · exact .inl (congrArg BlockStatus.errCode (commandRule_status hinit s))

/-! ### Hardware reset, R340 -/

/-- After hardware reset STATUS reads UnlockedLow and FIRST_LOOP, and no other bit. -/
theorem hardReset_statusWord (s : State) : s.hardReset.statusWord = 0x00000007#32 := by
  rw [statusWord_eq]
  rfl

/-- Settles O45: RST answers the hard reset, whose elements are those of the power-on state. -/
theorem hardwareResetSetsEveryElement : Obligations.HardwareResetSetsEveryElement := fun s =>
  ⟨s.hardReset, rfl, s.hardReset_staging, s.hardReset_host, s.hardReset_active, s.hardReset_derived, s.hardReset_seq,
    s.hardReset_pfd, s.hardReset_pi, s.hardReset_lock, s.hardReset_mailbox, s.hardReset_sdm, s.hardReset_status,
    hardReset_statusWord s, s.hardReset_outputs, s.hardReset_params, s.hardReset_inputs, s.hardReset_orderCount,
    s.hardReset_readLog⟩

end Sys2Proof.Machine
end
